-- ==== Sys2Proof/Word.lean ====
section
/-! DEFINITION. The words of the part's interfaces: bytes of the command port, 32-bit words of the strip
links and the cell link, raw pixels, and the two ways the manual counts (stopping and wrapping). -/

namespace Sys2Proof

/-- A byte of a command frame (R161). -/
abbrev Byte := BitVec 8

/-- A 32-bit word of a strip link or of the cell link (chapter 10). -/
abbrev Word := BitVec 32

/-- A raw pixel, 0..65535 (chapter 10, ROW message). -/
abbrev Pixel := BitVec 16

end Sys2Proof
end

