-- ==== Sys2Proof/Config.lean ====
section
/-! DEFINITION. The sizes the manual fixes for every part, and the free values: what the manual leaves
open where the part nevertheless goes on. -/

namespace Sys2Proof

/-- What the error-correcting code of cell memory found in one read (R107, R139). -/
inductive MemoryError where
  | single
  | uncorrectable
  deriving DecidableEq, Repr

end Sys2Proof

namespace Sys2Proof.Config

/-- Catalogue entries (R1). -/
abbrev entryCount : Nat := 256

/-- Largest segment id (R1). -/
abbrev segmentMax : Nat := 1023

/-- Slots of the cell table (R110). -/
abbrev slotCount : Nat := 2048

/-- Sky pixels of a cell (R112). -/
abbrev cellPixels : Nat := 4096

/-- The value at which the counts of summaries, slots, ports and the command port stop (R63, R89, R107,
R169), and the epoch limit (R26). -/
abbrev countMax : Nat := 4294967295

/-- Where the broken count stops (R1, R15). -/
abbrev brokenMax : Nat := 15

/-- Where a watch's hit count stops (R148). -/
abbrev hitMax : Nat := 65535

/-- The weight sum at which a sky pixel is full (R100). -/
abbrev weightMax : Nat := 2040

/-- The largest magnitude of a calibrated value (R97). -/
abbrev valueMax : Int := 8388607

/-- Contributors of a slot (R116). -/
abbrev contributorMax : Nat := 8

/-- The final part number (R115). -/
abbrev finalPart : Nat := 65535

/-- Verdicts a verdict queue holds (R86). -/
abbrev verdictMax : Nat := 8

/-- Bytes of the longest payload of a request or a reply (R161, R163). -/
abbrev payloadMax : Nat := 56

/-- FREE VALUE (log 16): the tag, result and value bytes of STATUS while the last long result is
absent. The manual gives only the kind byte, 0, for that case. Indexed by `Cmd.free`: each STATUS takes a
value of its own. -/
opaque absentLongResult : Nat → BitVec 48

/-- FREE VALUE (log 17): the value field of the last long result after a FLUSH. R165 says "None", and
STATUS has four bytes for it. Indexed as above. -/
opaque flushResultValue : Nat → Word

/-- FREE VALUE (log 12): whether the first word of a trailer has gone out when the pause line rises after the
port took the trailer. R138 lets either be first, and no command says when the word goes. Indexed as
above: each such rise takes a value of its own. -/
opaque firstWordGone : Nat → Bool

/-- FREE VALUE (log 29): what the read of a position of the cell, in a preparation that a FLUSH then cuts, had
found before the cut (R146): no error, or which, and also whether the position had been read at all. The
command that cuts has no operand for it. Indexed by `Cmd.free`, as above, and by the position. -/
opaque foundBeforeCut : Nat → Nat → Option MemoryError

/-- FREE VALUE (log 35): how many of the watch requests that wait first in the queue the port takes before a slot of a
completion check or a forced close is matched, at most all of them. R151 lets such a request fall between two
slots. Indexed as above: each slot that watch requests wait at takes a value of its own. -/
opaque requestsBetween : Nat → Nat

end Sys2Proof.Config
end

