-- ==== Sys2Proof/Syntax.lean ====
section
/-! DEFINITION. The commands the part takes: one constructor per row of spec/opcode_table.json. -/

namespace Sys2Proof

/-- The two exposure contexts (R48). A is the lower-lettered. -/
inductive Ctx where
  | A
  | B
  deriving DecidableEq, Repr

/-- A request frame whose form is good (R161, R162): the tag, the payload, and how many bytes were
clocked after the CRC-8. Those bytes are ignored, but the reply of the frame before is clocked out
during them (R163). -/
structure Frame where
  tag : Byte
  payload : List Byte
  extra : Nat
  deriving DecidableEq, Repr

/-- The requests, events and operation steps of spec/opcode_table.json, in the table's order. -/
inductive Instr where
  -- requests of the command port (chapter 9)
  | nop (f : Frame)
  | status (f : Frame)
  | putField (f : Frame)
  | clearStaging (f : Frame)
  | loadStaging (f : Frame)
  | stageAdd (f : Frame)
  | stageChange (f : Frame)
  | unstage (f : Frame)
  | retire (f : Frame)
  | clearSuspect (f : Frame)
  | commit (f : Frame)
  | readEntry (f : Frame)
  | writeStamp (f : Frame)
  | readStamp (f : Frame)
  | signCatalogue (f : Frame)
  | readSignature (f : Frame)
  | openExposure (f : Frame)
  | closeShutter (f : Frame)
  | endExposure (f : Frame)
  | releaseExposure (f : Frame)
  | readSummary (f : Frame)
  | flush (f : Frame)
  | readCell (f : Frame)
  | setWatch (f : Frame)
  | clearWatch (f : Frame)
  | readWatch (f : Frame)
  | setEnable (f : Frame)
  | acknowledge (f : Frame)
  | setParameter (f : Frame)
  | readParameter (f : Frame)
  | readCounters (f : Frame)
  | resetPart (f : Frame)
  | readMore (f : Frame)
  -- frames that are no request (R162, R164)
  | frameError (bytes : List Byte)
  | unknownRequest (kind : Byte) (f : Frame)
  -- lines (R50, R137, R174)
  | openingEdge
  | closingEdge
  | pauseLineRise
  | pauseLineFall
  | fullReset
  -- strip links (chapter 4): the port, and the words after the control symbol
  | wordSyncFound (p : Fin 4)
  | wordSyncLost (p : Fin 4)
  | stripHeader (p : Fin 4) (words : List Word)
  | row (p : Fin 4) (words : List Word)
  | stripEnd (p : Fin 4) (words : List Word)
  | verdictSent (p : Fin 4)
  -- the retire batch (chapter 2)
  | batchWindowExpiry
  | batchApplicationBegin
  | batchWithdrawal
  -- the end of gathering (chapter 3)
  | gatherTimerExpiry (c : Ctx)
  | forcedClose (c : Ctx)
  -- completions of boundaries, the signature walk and FLUSH (chapters 1 to 3)
  | openingComplete
  | commitBoundaryComplete
  | signatureEntryStep
  | signatureStampStep
  | flushFirstStep
  | flushComplete
  -- the commit of a row (chapters 5 and 6); what the read of the accumulators found
  | rowReserve
  | cellOpeningComplete
  | pixelPlace (found : Option MemoryError)
  | rowAdvance
  -- emission (chapter 7); what the reads of the preparation found, by position y * 64 + x
  | preparationEnd (found : List (Nat × MemoryError))
  | unitSent
  | trailerSent
  | abortMarkerSent
  -- start-up (R173)
  | startupClearingEnd
  deriving DecidableEq, Repr

end Sys2Proof
end

