-- ==== Sys2Proof/Machine/State.lean ====
section
/-! DEFINITION. Everything the manual gives the part, block by block (the table of 00_scope.md 1.2), the
reasons a step can stop, and the part right after a full reset at power-on. -/

namespace Sys2Proof.Machine

/-- Records by number, in one canonical form: numbers strictly rising. A number that is not listed has
the record the manual gives for "nothing there" (a VACANT entry, a FREE slot, no part queued, ...). -/
abbrev Table (α : Type) := List (Nat × α)

/-! ### Segment catalogue (chapters 1 and 2) -/

/-- A defect placement: anchor row, anchor column, stamp code (R4, R5). -/
structure Placement where
  row : Nat
  col : Nat
  stamp : Nat
  deriving DecidableEq, Repr

/-- A version: the fields of R4. DEFECT COUNT is the length of the defect list. -/
structure Version where
  rows : Nat
  cols : Nat
  originX : Nat
  originY : Nat
  colStepX : Int
  colStepY : Int
  rowStepX : Int
  rowStepY : Int
  bias : Nat
  gain : Nat
  flat : List Nat
  saturation : Nat
  weight : Nat
  defects : List Placement
  deriving DecidableEq, Repr

/-- An installed version and the epoch it is tagged with (R1, R26). -/
structure Installed where
  version : Version
  epoch : Nat
  deriving DecidableEq, Repr

/-- A staged change (R1): absent is `none`. -/
inductive Staged where
  | version (v : Version)
  | retirement
  deriving DecidableEq, Repr

/-- The states of an entry that is not VACANT (R1). -/
inductive EntryState where
  | pending
  | live
  | retiring
  deriving DecidableEq, Repr

/-- An in-flight marker: a strip port and a buffer (R17). -/
structure Marker where
  port : Fin 4
  buffer : Fin 2
  deriving DecidableEq, Repr

/-- A catalogue entry that is not VACANT (R1). -/
structure Entry where
  seg : Nat
  state : EntryState
  installed : List Installed
  staged : Option Staged
  suspect : Bool
  broken : Nat
  marker : Option Marker
  member : Bool
  deriving DecidableEq, Repr

/-- The staging record (R6): each field present or absent, the placements by position 0..15. -/
structure Staging where
  rows : Option Nat
  cols : Option Nat
  originX : Option Nat
  originY : Option Nat
  colStepX : Option Int
  colStepY : Option Int
  rowStepX : Option Int
  rowStepY : Option Int
  bias : Option Nat
  gain : Option Nat
  flat : Option (List Nat)
  saturation : Option Nat
  weight : Option Nat
  defectCount : Option Nat
  defects : Table Placement
  deriving DecidableEq, Repr

/-- The staging record with every field absent (R6, R9). -/
def Staging.empty : Staging :=
  { rows := none, cols := none, originX := none, originY := none, colStepX := none, colStepY := none,
    rowStepX := none, rowStepY := none, bias := none, gain := none, flat := none, saturation := none,
    weight := none, defectCount := none, defects := [] }

/-- A stamp: 8 rows of 8 mask bits; mask bit j is bit j of its row (R19, R23). -/
abbrev Stamp := Vector Byte 8

/-- The retire batch (R41, R42). `due` is an expired window waiting for an installation or a FLUSH;
`applying false` is an application in progress whose first step (R43) is still to come. -/
inductive Batch where
  | closed
  | window (ms : Nat)
  | due
  | applying (abandoned : Bool)
  deriving DecidableEq, Repr

/-- The signature status (R22, R25). -/
inductive SignStatus where
  | none
  | running
  | signed
  | disturbed
  deriving DecidableEq, Repr

/-- The signature walk (R22 to R25): status, value, walk position, disturbed mark and CRC register. -/
structure Signature where
  status : SignStatus
  value : Word
  position : Nat
  disturbed : Bool
  crc : Word
  deriving DecidableEq, Repr

/-- The segment catalogue: entries by index 0..255, staging record, stamps by code, epoch counter,
retire batch, signature walk. -/
structure Cat where
  entries : Table Entry
  staging : Staging
  stamps : Vector Stamp 32
  epoch : Nat
  batch : Batch
  sign : Signature
  deriving DecidableEq, Repr

/-! ### Exposure control (chapter 3) -/

/-- The states of a context (R48). -/
inductive ContextState where
  | free
  | exposing
  | gathering
  | closing
  | held
  deriving DecidableEq, Repr

/-- A progress record (R54). -/
structure Progress where
  seg : Nat
  next : Nat
  withdrawn : Bool
  deriving DecidableEq, Repr

/-- Why gathering ended (R48). -/
inductive EndCause where
  | natural
  | limit
  | ended
  deriving DecidableEq, Repr

/-- The two lists of a summary that are derived until it is fixed (R63, R64). -/
structure FixedLists where
  missing : List Nat
  withdrawn : List Nat
  deriving DecidableEq, Repr

/-- The counts of a summary (R63). The refusals are by verdict code 1 to 13, at position code - 1. Its
exposure number, epoch, end cause and expected count are the context's own. `fixed` is present once
the summary is fixed (R64). -/
structure Summary where
  finished : Nat
  accepted : Nat
  refusals : Vector Nat 13
  pixels : Nat
  defect : Nat
  saturated : Nat
  offGrid : Nat
  crowded : Nat
  cellsComplete : Nat
  cellsPartial : Nat
  cellsForced : Nat
  damaged : Nat
  watchHits : Nat
  fixed : Option FixedLists
  deriving DecidableEq, Repr

/-- A summary as an opening starts it: every count 0 (R52). -/
def Summary.start : Summary :=
  { finished := 0, accepted := 0, refusals := Vector.replicate 13 0, pixels := 0, defect := 0, saturated := 0,
    offGrid := 0, crowded := 0, cellsComplete := 0, cellsPartial := 0, cellsForced := 0, damaged := 0,
    watchHits := 0, fixed := none }

/-- A context (R48). The segments of `progress` are its expected set. The gather timer is `none` when
stopped, else the milliseconds to expiry. In FREE every other field has its value of `Context.free`. -/
structure Context where
  state : ContextState
  number : Nat
  epoch : Nat
  progress : List Progress
  timer : Option Nat
  endCause : Option EndCause
  summary : Summary
  deriving DecidableEq, Repr

/-- A FREE context (the FREE row of R48). -/
def Context.free : Context :=
  { state := .free, number := 0, epoch := 0, progress := [], timer := none, endCause := none,
    summary := Summary.start }

/-- An opening being performed (R52): the chosen context and the number it has taken. -/
structure Opening where
  ctx : Ctx
  number : Nat
  deriving DecidableEq, Repr

/-- The shutter latch (R51): an opening edge, and a closing edge after it. -/
structure Latch where
  opening : Bool
  closing : Bool
  deriving DecidableEq, Repr

/-- Exposure control. `flushing` holds from a FLUSH's first step until it completes (R67). -/
structure Exc where
  ctxA : Context
  ctxB : Context
  opening : Option Opening
  latch : Latch
  flushing : Bool
  deriving DecidableEq, Repr

/-! ### Strip ports (chapter 4) -/

/-- What a port does with the next message (R70, R73). -/
inductive ReceiveState where
  | awaiting
  | receiving
  | discarding
  deriving DecidableEq, Repr

/-- The strip of a buffer that is not IDLE (R74). `crc` is the CRC-32 register before inversion. -/
structure Strip where
  exposure : Nat
  seg : Nat
  first : Nat
  count : Nat
  ctx : Ctx
  cols : Nat
  rows : List (List Pixel)
  crc : Word
  deriving DecidableEq, Repr

/-- A strip buffer (R74). -/
inductive Buffer where
  | idle
  | receiving (strip : Strip)
  | ready (strip : Strip)
  | committing (strip : Strip)
  deriving DecidableEq, Repr

/-- The verdicts (R85), in code order 0 to 13 (10.3). -/
inductive VerdictCode where
  | accepted
  | flushed
  | held
  | late
  | notReady
  | unknownExposure
  | unknownSegment
  | retired
  | notExpected
  | segmentBusy
  | duplicate
  | gap
  | broken
  | crc
  deriving DecidableEq, Repr

/-- A verdict (R85). -/
structure Verdict where
  seg : Nat
  first : Nat
  code : VerdictCode
  next : Nat
  deriving DecidableEq, Repr

/-- A strip port (R70). `sync` is its receiver's word sync. `older` is the age order (R74). The verdicts
are oldest first. `backChannel` is the model's own: the words of the last verdict sent (log 24). -/
structure Port where
  sync : Bool
  up : Bool
  receive : ReceiveState
  buffers : Vector Buffer 2
  older : Option (Fin 2)
  verdicts : List Verdict
  headersSeen : Nat
  refusedUnknown : Nat
  abandonedDown : Nat
  backChannel : List Word
  deriving DecidableEq, Repr

/-- A port after a full reset (R90). -/
def Port.reset : Port :=
  { sync := false, up := false, receive := .awaiting, buffers := Vector.replicate 2 .idle, older := none,
    verdicts := [], headersSeen := 0, refusedUnknown := 0, abandonedDown := 0, backChannel := [] }

/-! ### Placement engine (chapter 5) -/

/-- A cell index (cx, cy) (00_scope.md 2.4). -/
structure CellIndex where
  cx : Nat
  cy : Nat
  deriving DecidableEq, Repr

/-- The phases of a row (R93). -/
inductive RowPhase where
  | reserve
  | wait
  | place
  | advance
  deriving DecidableEq, Repr

/-- The current commit (R91), the column to be placed next (R94), and its row's reservation: touched
cells (R102), touched cells not yet asked for in RESERVE, cells left without a slot (m of R123),
victims outstanding (q of R123), and the slot whose opening has not completed (R114). -/
structure Commit where
  port : Fin 4
  buffer : Fin 2
  ctx : Ctx
  exposure : Nat
  seg : Nat
  first : Nat
  count : Nat
  cols : Nat
  row : Nat
  phase : RowPhase
  col : Nat
  touched : List CellIndex
  toAsk : List CellIndex
  missing : List CellIndex
  victims : List Nat
  opening : Option Nat
  deriving DecidableEq, Repr

/-- The placement engine: the engine is COMMITTING exactly when a commit is present (R91). -/
structure Ple where
  lastServed : Fin 4
  commit : Option Commit
  deriving DecidableEq, Repr

/-! ### Cell table (chapter 6) -/

/-- The states of a slot that is not FREE (R110). -/
inductive SlotState where
  | opened
  | queued
  | emitting
  deriving DecidableEq, Repr

/-- How a slot was queued (R120): COMPLETE, PARTIAL, FORCED. -/
inductive Completeness where
  | complete
  | partly
  | forced
  deriving DecidableEq, Repr

/-- The states of a contributor (R110, R118). -/
inductive ContributorState where
  | expected
  | done
  | withdrawn
  deriving DecidableEq, Repr

/-- A contributor record (R110). -/
structure Contributor where
  seg : Nat
  first : Nat
  last : Nat
  state : ContributorState
  suspect : Option Bool
  pixels : Nat
  deriving DecidableEq, Repr

/-- A slot that is not FREE (R110). -/
structure Slot where
  state : SlotState
  ctx : Ctx
  cell : CellIndex
  part : Nat
  completeness : Option Completeness
  contributors : List Contributor
  pixels : Nat
  defect : Nat
  saturated : Nat
  crowded : Nat
  damaged : Nat
  crowdedFlag : Bool
  damagedFlag : Bool
  watchSet : BitVec 8
  pinned : Bool
  deriving DecidableEq, Repr

/-- A sky-pixel record of cell memory (R112). -/
structure SkyRecord where
  sum : Int
  weight : Nat
  damaged : Bool
  deriving DecidableEq, Repr

/-- A cleared record (R112); also what an unlisted address reads as. -/
def SkyRecord.clear : SkyRecord := { sum := 0, weight := 0, damaged := false }

/-- Cell memory (R112) by address slot * 4096 + y * 64 + x, addresses strictly rising, no clear record
listed. -/
abbrev Memory := Table SkyRecord

/-- An item of the emission queue (R129). -/
inductive QueueItem where
  | slot (n : Nat)
  | trailer (c : Ctx)
  deriving DecidableEq, Repr

/-- The cell table: slots by number 0..2047, touch order (least recently touched first), emission queue
(head first), last part numbers by cy * 1024 + cx for each context, corrected counter, cell memory. -/
structure Ctb where
  slots : Table Slot
  touch : List Nat
  queue : List QueueItem
  partsA : Table Nat
  partsB : Table Nat
  corrected : Nat
  memory : Memory
  deriving DecidableEq, Repr

/-! ### Cell output port (chapter 7) -/

/-- The header of a cell record (R141). -/
structure CellHeader where
  instanceNo : Nat
  exposure : Nat
  epoch : Nat
  cell : CellIndex
  part : Nat
  completeness : Option Completeness
  crowdedFlag : Bool
  damagedFlag : Bool
  suspectFlag : Bool
  watchSet : BitVec 8
  contributors : List Contributor
  pixels : Nat
  defect : Nat
  saturated : Nat
  crowded : Nat
  damaged : Nat
  deriving DecidableEq, Repr

/-- An output pixel that is not BLANK (R140). -/
structure OutputPixel where
  value : Int
  weight : Nat
  deriving DecidableEq, Repr

/-- An exposure trailer (R145), with the context's fields and its summary as fixed. -/
structure Trailer where
  instanceNo : Nat
  ctx : Ctx
  number : Nat
  epoch : Nat
  endCause : Option EndCause
  expected : Nat
  summary : Summary
  lists : FixedLists
  deriving DecidableEq, Repr

/-- Where a trailer stands at its one pause point, before its first word (R143, R145): at the point with the
pause state clear, held there, or past it. -/
inductive TrailerPoint where
  | atFirst
  | held
  | begun
  deriving DecidableEq, Repr

/-- The port state with its current item and unit position (R137). The output rows are by position
y * 64 + x, BLANK pixels unlisted. Unit positions of a cell record: 0 HEADER, 1 to 64 for ROW 0 to ROW 63
(R175). `held` says that the port waits at a pause point (R143); a trailer has a `TrailerPoint`. -/
inductive PortState where
  | reset
  | idle
  | preparing (slot : Nat)
  | sendingCell (slot : Nat) (header : CellHeader) (rows : Table OutputPixel) (position : Nat) (held : Bool)
  | sendingTrailer (trailer : Trailer) (point : TrailerPoint)
  | aborting (held : Bool)
  deriving DecidableEq, Repr

/-- What the port last sent whole on the cell link: the model's own output field (log 24). -/
inductive LinkOutput where
  | cellWords (position : Nat) (words : List Word)
  | trailerWords (words : List Word)
  | abortMarker
  deriving DecidableEq, Repr

/-- The cell output port. `pause` is the level of the pause line as last seen. -/
structure Cop where
  state : PortState
  pause : Bool
  sent : Option LinkOutput
  deriving DecidableEq, Repr

/-! ### Watches and attention (chapter 8) -/

/-- The kinds of a watch (R149). -/
inductive WatchKind where
  | covered
  | peakAbove
  | saturated
  | segment
  | cellDone
  | cellPartial
  deriving DecidableEq, Repr

/-- Kind, region and threshold of a watch that is not CLEARED (R148). -/
structure WatchSetting where
  kind : WatchKind
  x0 : Nat
  x1 : Nat
  y0 : Nat
  y1 : Nat
  threshold : Int
  deriving DecidableEq, Repr

/-- The first hit of a watch (R148). -/
structure FirstHit where
  exposure : Nat
  cell : CellIndex
  seg : Option Nat
  deriving DecidableEq, Repr

/-- A watch record (R148). It is enabled when it has a setting, and its hit flag is set when it has a
first hit: CLEARED, ARMED and HIT are the three combinations. -/
structure Watch where
  setting : Option WatchSetting
  count : Nat
  first : Option FirstHit
  deriving DecidableEq, Repr

/-- A CLEARED watch (R148). -/
def Watch.cleared : Watch := { setting := none, count := 0, first := none }

/-- The attention unit: flags and enables, coded as in 10.1 (bit 0 EXPOSURE_DONE to bit 8 WORK_DONE). -/
structure Att where
  flags : BitVec 9
  enables : BitVec 9
  deriving DecidableEq, Repr

/-! ### Command port (chapter 9) -/

/-- The reply statuses (R164), in code order 1 to 15 (10.1). -/
inductive Status where
  | ok
  | accepted
  | deferred
  | busy
  | invalid
  | exists_
  | full
  | unknownSegment
  | inUse
  | state
  | overrun
  | epochLimit
  | frameError
  | unknownRequest
  | starting
  deriving DecidableEq, Repr

/-- A reply (R163). -/
structure Reply where
  status : Status
  tag : Byte
  payload : List Byte
  deriving DecidableEq, Repr

/-- The long requests (R165). -/
inductive LongKind where
  | commit
  | signCatalogue
  | flush
  deriving DecidableEq, Repr

/-- The long request that is running (R165). -/
structure LongRequest where
  kind : LongKind
  tag : Byte
  deriving DecidableEq, Repr

/-- The results of long requests (R165). -/
inductive LongOutcome where
  | ok
  | signed
  | disturbed
  deriving DecidableEq, Repr

/-- The last long result (R165); a FLUSH has no value. -/
structure LongResult where
  kind : LongKind
  tag : Byte
  result : LongOutcome
  value : Option Word
  deriving DecidableEq, Repr

/-- The command port: reply slot, reply store, READ MORE cursor, long-request slot, last long result and
count of frame errors. `dataOut` is the model's own: the bytes clocked out in the last frame (log 23);
`free` too: the number of the next free value (logs 12, 16, 17, 29, 35); and `taken` too: for each watch request of
the queue's front that was taken ahead of its turn, between two slots, the bytes its frame clocked out (log 35). -/
structure Cmd where
  replySlot : Option Reply
  store : List Byte
  cursor : Option Nat
  long : Option LongRequest
  last : Option LongResult
  frameErrors : Nat
  dataOut : List Byte
  free : Nat
  taken : List (List Byte)
  deriving DecidableEq, Repr

/-- The command port after power-on (R174). -/
def Cmd.reset : Cmd :=
  { replySlot := none, store := [], cursor := none, long := none, last := none, frameErrors := 0, dataOut := []
    free := 0, taken := [] }

/-- SHUTTER_SENSE (R50). -/
inductive Sense where
  | rising
  | falling
  deriving DecidableEq, Repr

/-- The parameters (R170). -/
structure Params where
  gatherLimit : Nat
  batchWindow : Nat
  brokenLimit : Nat
  spill : Bool
  summaryHold : Bool
  shutterUse : Bool
  shutterSense : Sense
  nextExposure : Nat
  linkEnable : BitVec 4
  instanceNo : Nat
  deriving DecidableEq, Repr

/-- The reset values of R170. -/
def Params.reset : Params :=
  { gatherLimit := 20000, batchWindow := 50, brokenLimit := 4, spill := true, summaryHold := false,
    shutterUse := true, shutterSense := .rising, nextExposure := 1, linkEnable := 0b1111#4, instanceNo := 0 }

/-! ### The part -/

/-- The part states (R173). -/
inductive PartState where
  | starting
  | ready
  deriving DecidableEq, Repr

/-- The whole part, and the commands that wait for it, first in, first out. -/
structure State where
  part : PartState
  cat : Cat
  exc : Exc
  ports : Vector Port 4
  ple : Ple
  ctb : Ctb
  cop : Cop
  watches : Vector Watch 8
  att : Att
  cmd : Cmd
  params : Params
  pending : List Instr
  deriving DecidableEq, Repr

/-- The catalogue after a full reset (R3, R25, R41). That the walk's disturbed mark is clear and its CRC register 0 is
the model's choice (log 33). -/
def Cat.reset : Cat :=
  { entries := [], staging := Staging.empty, stamps := Vector.replicate 32 (Vector.replicate 8 0), epoch := 0,
    batch := .closed, sign := { status := .none, value := 0, position := 0, disturbed := false, crc := 0 } }

/-- Exposure control after a full reset (R69). -/
def Exc.reset : Exc :=
  { ctxA := Context.free, ctxB := Context.free, opening := none, latch := { opening := false, closing := false },
    flushing := false }

/-- The cell table after a full reset at power-on (R135; cell memory: log 15). -/
def Ctb.reset : Ctb :=
  { slots := [], touch := [], queue := [], partsA := [], partsB := [], corrected := 0, memory := [] }

/-- The part after power-on (R174 and the rules it gathers). The pause state is a pin's level, taken as
clear (log 13). -/
def State.reset : State :=
  { part := .starting
    cat := Cat.reset
    exc := Exc.reset
    ports := Vector.replicate 4 Port.reset
    ple := { lastServed := 3, commit := none }
    ctb := Ctb.reset
    cop := { state := .reset, pause := false, sent := none }
    watches := Vector.replicate 8 Watch.cleared
    att := { flags := 0, enables := 0 }
    cmd := Cmd.reset
    params := Params.reset
    pending := [] }

/-- Reasons a step can stop with a fault. The manual has none, and no meaning raises one: every command
has an effect in every state. The one constructor is never raised (safe). -/
inductive Fault where
  /-- Raised by nobody: kept so that the type is not empty. Safe. -/
  | none
  deriving DecidableEq, Repr

/-- Reasons a step can be refused. -/
inductive Refusal where
  /-- Raised by `exec` for a command that has no meaning yet; no arm does so now. Safe. -/
  | notModelled (mnemonic : String)
  deriving DecidableEq, Repr

end Sys2Proof.Machine
end

