-- ==== Sys2Proof/Machine/Table.lean ====
section
/-! DEFINITION. Keyed lists in their canonical form (numbers strictly rising), cell memory over them, and
the counts that stop at their largest value. -/

namespace Sys2Proof.Machine

/-- The canonical form of a table: numbers strictly rising. -/
def Table.wf {α : Type} : Table α → Bool
  | [] => true
  | [_] => true
  | e :: e' :: t => e.1 < e'.1 && Table.wf (e' :: t)

/-- The record with a number. -/
def Table.read {α : Type} : Table α → Nat → Option α
  | [], _ => none
  | (i, a) :: t, k => if i = k then some a else Table.read t k

/-- List a record under a number, in its place. -/
def Table.write {α : Type} : Table α → Nat → α → Table α
  | [], k, a => [(k, a)]
  | (i, b) :: t, k, a =>
    if k < i then (k, a) :: (i, b) :: t
    else if k = i then (k, a) :: t
    else (i, b) :: Table.write t k a

/-- Unlist a number. -/
def Table.remove {α : Type} (t : Table α) (k : Nat) : Table α := t.filter fun e => e.1 != k

/-- Change the record with a number, if it is listed. -/
def Table.change {α : Type} (t : Table α) (k : Nat) (f : α → α) : Table α :=
  t.map fun e => (e.1, if e.1 = k then f e.2 else e.2)

/-- The lowest number from `n` on that is not listed. -/
def Table.lowestFrom {α : Type} : Nat → Table α → Nat
  | n, [] => n
  | n, (i, _) :: t => if i = n then Table.lowestFrom (n + 1) t else n

/-- The lowest number below `limit` that is not listed. -/
def Table.lowest {α : Type} (limit : Nat) (t : Table α) : Option Nat :=
  if Table.lowestFrom 0 t < limit then some (Table.lowestFrom 0 t) else none

/-- The canonical form of cell memory: addresses strictly rising, and no record listed that an unlisted
address reads as. -/
def Memory.wf (m : Memory) : Bool := Table.wf m && m.all fun e => e.2 != SkyRecord.clear

/-- The sky-pixel record at an address (R112). -/
def Memory.read (m : Memory) (a : Nat) : SkyRecord := (Table.read m a).getD SkyRecord.clear

/-- Write the sky-pixel record at an address; a clear record is unlisted. -/
def Memory.write (m : Memory) (a : Nat) (r : SkyRecord) : Memory :=
  if r = SkyRecord.clear then Table.remove m a else Table.write m a r

/-- The address of position y * 64 + x of a slot. -/
def skyAddress (slot position : Nat) : Nat := slot * Config.cellPixels + position

/-- Clear every record of a slot (R112). -/
def Memory.clearSlot (m : Memory) (slot : Nat) : Memory :=
  m.filter fun e => e.1 / Config.cellPixels != slot

/-- A count that stops at its largest value (00_scope.md 2.3). -/
def addUpTo (limit n k : Nat) : Nat := min limit (n + k)

/-- One more on a count of R63, R89, R110 and R169. -/
def countUp (n : Nat) : Nat := addUpTo Config.countMax n 1

end Sys2Proof.Machine
end

