-- ==== Sys2Proof/Machine/Flags.lean ====
section
/-! DEFINITION. The attention unit's flags, enables and line (R156, R157), and the shutter line's edges
(R50). -/

namespace Sys2Proof.Machine

/-- The nine attention causes (R156). -/
inductive Cause where
  | exposureDone
  | overrun
  | shutterFault
  | watch
  | suspect
  | spill
  | linkFault
  | memory
  | workDone
  deriving DecidableEq, Repr

/-- The bit of a cause in a cause set (10.1). -/
def Cause.bit : Cause → Nat
  | .exposureDone => 0
  | .overrun => 1
  | .shutterFault => 2
  | .watch => 3
  | .suspect => 4
  | .spill => 5
  | .linkFault => 6
  | .memory => 7
  | .workDone => 8

/-- The cause set naming one cause. -/
def Cause.mask (c : Cause) : BitVec 9 := BitVec.twoPow 9 c.bit

/-- Raise a cause: its flag is set, whatever its enable (R156). -/
def Att.raise (a : Att) (c : Cause) : Att := { a with flags := a.flags ||| c.mask }

/-- The attention line: asserted while some cause has both its flag and its enable set (R157). -/
def Att.line (a : Att) : Bool := a.flags &&& a.enables != 0

/-- Raise a cause in the part. -/
def State.raise (s : State) (c : Cause) : State := { s with att := s.att.raise c }

/-- A change of the shutter line's level. -/
inductive LineEdge where
  | rising
  | falling
  deriving DecidableEq, Repr

/-- The command that an edge of the shutter line is, by SHUTTER_SENSE as it stands (R50). -/
def edgeCommand (sense : Sense) (e : LineEdge) : Instr :=
  match sense, e with
  | .rising, .rising => .openingEdge
  | .rising, .falling => .closingEdge
  | .falling, .rising => .closingEdge
  | .falling, .falling => .openingEdge

end Sys2Proof.Machine
end

