-- ==== Sys2Proof/Machine/Geometry.lean ====
section
/-! DEFINITION. What a version says of its segment's pixels: where they fall on the sky (R98, R99), which
are defective (R95), how a raw value is calibrated (R97), and over which rows they reach a cell (R116,
R117). -/

namespace Sys2Proof.Machine

/-- Division by a positive number, rounded to nearest with ties away from zero (R97, R140). -/
def roundDiv (a : Int) (b : Nat) : Int := a.sign * (((2 * a.natAbs + b) / (2 * b) : Nat) : Int)

/-- The position of pixel (r, c) on the x axis, in 1/65536 sky pixel (R98). -/
def Version.posX (v : Version) (r c : Nat) : Int := v.originX + c * v.colStepX + r * v.rowStepX

/-- As `posX`, on the y axis. -/
def Version.posY (v : Version) (r c : Nat) : Int := v.originY + c * v.colStepY + r * v.rowStepY

/-- A position rounded half up to a sky pixel coordinate (R98); `/` rounds down. -/
def skyCoord (p : Int) : Int := (p + 32768) / 65536

/-- The sky pixel (x, y) of pixel (r, c), or `none` off the grid (R99). -/
def Version.skyPixel (v : Version) (r c : Nat) : Option (Nat × Nat) :=
  let x := skyCoord (v.posX r c)
  let y := skyCoord (v.posY r c)
  if 0 ≤ x ∧ x ≤ 65535 ∧ 0 ≤ y ∧ y ≤ 65535 then some (x.toNat, y.toNat) else none

/-- The cell of a sky pixel (R99). -/
def cellOf (xy : Nat × Nat) : CellIndex := { cx := xy.1 / 64, cy := xy.2 / 64 }

/-- The in-cell position y * 64 + x of a sky pixel (R99). -/
def positionOf (xy : Nat × Nat) : Nat := xy.2 % 64 * 64 + xy.1 % 64

/-- The cell pixel (r, c) falls into, if it is on the grid. -/
def Version.pixelCell (v : Version) (r c : Nat) : Option CellIndex := (v.skyPixel r c).map cellOf

/-- The columns, first and last, for which `lo ≤ a + c * step < hi`; `n` columns in all. -/
def columnSpan (a step lo hi n : Int) : Int × Int :=
  if 0 < step then (-((a - lo) / step), (hi - 1 - a) / step)
  else if step < 0 then (-((hi - 1 - a) / (-step)), (a - lo) / (-step))
  else if lo ≤ a ∧ a < hi then (0, n - 1)
  else (0, -1)

/-- Some pixel of row r falls into the cell. The columns that reach the cell's x range and those that reach
its y range are two intervals; the row reaches the cell when they share a column of the segment. Only cells of
the sky grid, with indices 0 to 1023, hold a pixel (R99).
(`Laws.rowReaches_iff` says that this is the pixel-by-pixel test of R116.) -/
def Version.rowReaches (v : Version) (cell : CellIndex) (r : Nat) : Bool :=
  let x := columnSpan (v.originX + r * v.rowStepX + 32768) v.colStepX (cell.cx * 4194304) ((cell.cx + 1) * 4194304) v.cols
  let y := columnSpan (v.originY + r * v.rowStepY + 32768) v.colStepY (cell.cy * 4194304) ((cell.cy + 1) * 4194304) v.cols
  cell.cx ≤ 1023 && cell.cy ≤ 1023 && decide (max 0 (max x.1 y.1) ≤ min ((v.cols : Int) - 1) (min x.2 y.2))

/-- The first and last row of the version with a pixel in the cell (R117), if it maps any into it
(R116). -/
def Version.rowRange (v : Version) (cell : CellIndex) : Option (Nat × Nat) :=
  let rows := (List.range v.rows).filter (v.rowReaches cell)
  match rows.head?, rows.getLast? with
  | some a, some b => some (a, b)
  | _, _ => none

/-- The cells a row of `cols` pixels touches, in the order the row first reaches them (R102). -/
def Version.touchedCells (v : Version) (r cols : Nat) : List CellIndex :=
  ((List.range cols).filterMap (v.pixelCell r)).foldl (fun seen c => if c ∈ seen then seen else seen ++ [c]) []

/-- The placement marks pixel (r, c), its stamp's rows being as given (R5, R95). -/
def Placement.marks (p : Placement) (stamp : Stamp) (r c : Nat) : Bool :=
  p.row ≤ r && r ≤ p.row + 7 && p.col ≤ c && c ≤ p.col + 7
    && (stamp.toList.getD (r - p.row) 0).getLsbD (c - p.col)

/-- The stamp with a code; codes are 0..31 (R4, R19). -/
def stampOf (stamps : Vector Stamp 32) (code : Nat) : Stamp :=
  stamps.toList.getD code (Vector.replicate 8 0)

/-- Pixel (r, c) is defective: some placement of the version marks it (R95). -/
def Version.defective (v : Version) (stamps : Vector Stamp 32) (r c : Nat) : Bool :=
  v.defects.any fun p => p.marks (stampOf stamps p.stamp) r c

/-- The clamp of R97. -/
def clampValue (v : Int) : Int := max (-Config.valueMax) (min Config.valueMax v)

/-- The calibrated value of raw value `p` in column c (R97). -/
def Version.calibrate (v : Version) (c p : Nat) : Int :=
  clampValue (roundDiv (((p : Int) - v.bias) * v.gain * (v.flat.getD (c / 64) 0 : Nat)) 134217728)

end Sys2Proof.Machine
end

