-- ==== Sys2Proof/Machine/Crc.lean ====
section
/-! DEFINITION. The two CRC computations (R176, R177) and the byte order of multi-byte quantities: most
significant byte first (chapter 10). -/

namespace Sys2Proof.Machine

/-- `n` bytes of `v`, most significant first. -/
def bytesOf : Nat → Nat → List Byte
  | 0, _ => []
  | n + 1, v => BitVec.ofNat 8 (v / 256 ^ n) :: bytesOf n v

/-- The unsigned quantity of some bytes, most significant first. -/
def natOf (bs : List Byte) : Nat := bs.foldl (fun a b => a * 256 + b.toNat) 0

/-- `n` bytes of a signed quantity, in two's complement. -/
def bytesOfInt (n : Nat) (v : Int) : List Byte := bytesOf n (v % (256 ^ n : Nat)).toNat

/-- The signed quantity of some bytes, in two's complement. -/
def intOf (bs : List Byte) : Int :=
  let u := natOf bs
  if 2 * u < 256 ^ bs.length then u else (u : Int) - (256 ^ bs.length : Nat)

/-- A word is sent, and folded into a CRC, as its four bytes from the most significant. -/
def wordBytes (w : Word) : List Byte :=
  [w.extractLsb' 24 8, w.extractLsb' 16 8, w.extractLsb' 8 8, w.extractLsb' 0 8]

/-- A word from its two halves, bits 31..16 and bits 15..0. -/
def wordOfHalves (hi lo : Nat) : Word := BitVec.ofNat 32 (hi % 65536 * 65536 + lo % 65536)

/-- Bits 31..16 of a word. -/
def highHalf (w : Word) : Nat := (w.extractLsb' 16 16).toNat

/-- Bits 15..0 of a word. -/
def lowHalf (w : Word) : Nat := (w.extractLsb' 0 16).toNat

/-- Shift a CRC register left `k` times; after each shift in which a 1 went out, combine it with the
generator. -/
def crcShift {n : Nat} (generator : BitVec n) : Nat → BitVec n → BitVec n
  | 0, r => r
  | k + 1, r => crcShift generator k (if r.msb then (r <<< 1) ^^^ generator else r <<< 1)

/-- One byte into the CRC-8 register (R176). -/
def crc8Step (r b : Byte) : Byte := crcShift 0x2F#8 8 (r ^^^ b)

/-- The CRC-8 of the command port: register from 0xFF, no final inversion (R176). -/
def crc8 (bs : List Byte) : Byte := bs.foldl crc8Step 0xFF#8

/-- One byte into the CRC-32 register (R177). -/
def crc32Step (r : Word) (b : Byte) : Word := crcShift 0x04C11DB7#32 8 (r ^^^ (b.setWidth 32 <<< 24))

/-- The CRC-32 register before the first byte (R177). -/
def crc32Start : Word := 0xFFFFFFFF#32

/-- The CRC-32 register after more bytes. -/
def crc32Bytes (r : Word) (bs : List Byte) : Word := bs.foldl crc32Step r

/-- The CRC-32 register after more words. -/
def crc32Words (r : Word) (ws : List Word) : Word := ws.foldl (fun r w => crc32Bytes r (wordBytes w)) r

/-- The CRC-32 from its register: every bit inverted (R177). -/
def crc32Value (r : Word) : Word := ~~~ r

end Sys2Proof.Machine
end

