-- ==== Sys2Proof/Machine/Operands.lean ====
section
/-! DEFINITION. The operands of requests, read from their payloads as 10.1 and R179 lay them out, with the
argument codes of R164; and the words of strip-link messages (10.3, R178). -/

namespace Sys2Proof

open Sys2Proof.Machine

/-! ### Payload fields -/

/-- `n` payload bytes from byte `i`. -/
def Frame.bytes (f : Frame) (i n : Nat) : List Byte := (f.payload.drop i).take n

/-- An unsigned payload field of `n` bytes from byte `i`. -/
def Frame.nat (f : Frame) (i n : Nat) : Nat := natOf (f.bytes i n)

/-- A signed payload field of `n` bytes from byte `i`. -/
def Frame.int (f : Frame) (i n : Nat) : Int := intOf (f.bytes i n)

/-- The length of a request frame in bytes (R161). -/
def Frame.length (f : Frame) : Nat := 4 + f.payload.length + f.extra

/-- The payload has one length only (10.1). -/
def Frame.fits (f : Frame) (n : Nat) : Bool := f.payload.length == n

/-- The bytes of a value of PUT FIELD by its field code (R179), FLAT aside. -/
def fieldWidth (code : Nat) : Nat :=
  if code = 13 ∨ code = 14 then 1
  else if code = 1 ∨ code = 2 ∨ code = 9 ∨ code = 10 ∨ code = 12 then 2
  else if 3 ≤ code ∧ code ≤ 8 then 4
  else 5

/-- The payload lengths that fit PUT FIELD (R179). -/
def Frame.fitsPutField (f : Frame) : Bool :=
  if f.payload.length = 0 then false
  else
    let code := f.nat 0 1
    if code < 1 ∨ 30 < code then true
    else if code = 11 then 2 ≤ f.payload.length && f.payload.length == 2 + 2 * f.nat 1 1
    else f.payload.length == 1 + fieldWidth code

/-- The payload lengths that fit READ CELL (R179). -/
def Frame.fitsReadCell (f : Frame) : Bool :=
  if f.payload.length = 0 then false
  else if f.nat 0 1 = 1 then f.payload.length == 6
  else if f.nat 0 1 = 2 then f.payload.length == 3
  else true

/-- The eight rows of a stamp from payload byte `i` on. -/
def Frame.stamp (f : Frame) (i : Nat) : Stamp := Vector.ofFn fun r : Fin 8 => f.payload.getD (i + r.val) 0

end Sys2Proof

namespace Sys2Proof.Machine

/-! ### Coded arguments (10.1) -/

/-- The version selectors. -/
inductive Selector where
  | newest
  | staged
  | resolved (c : Ctx)
  deriving DecidableEq, Repr

/-- A version selector by its code. -/
def selectorOf : Nat → Option Selector
  | 1 => some .newest
  | 2 => some .staged
  | 3 => some (.resolved .A)
  | 4 => some (.resolved .B)
  | _ => none

/-- The sections of READ ENTRY. -/
inductive Section where
  | state
  | geometry
  | calibration
  | defects
  deriving DecidableEq, Repr

/-- A READ ENTRY section by its code. -/
def sectionOf : Nat → Option Section
  | 1 => some .state
  | 2 => some .geometry
  | 3 => some .calibration
  | 4 => some .defects
  | _ => none

/-- The retirement modes. -/
inductive RetireMode where
  | atBoundary
  | immediate
  deriving DecidableEq, Repr

/-- A retirement mode by its code. -/
def retireModeOf : Nat → Option RetireMode
  | 1 => some .atBoundary
  | 2 => some .immediate
  | _ => none

/-- A context by its code. -/
def ctxOf : Nat → Option Ctx
  | 0 => some .A
  | 1 => some .B
  | _ => none

/-- A watch number. -/
def watchNumberOf (n : Nat) : Option (Fin 8) := if h : n < 8 then some ⟨n, h⟩ else none

/-- A watch kind by its code. -/
def watchKindOf : Nat → Option WatchKind
  | 1 => some .covered
  | 2 => some .peakAbove
  | 3 => some .saturated
  | 4 => some .segment
  | 5 => some .cellDone
  | 6 => some .cellPartial
  | _ => none

/-- A cause set or enable set: a set bit 9 to 15 names anything other than the nine causes. -/
def causeSetOf (n : Nat) : Option (BitVec 9) := if n < 512 then some (BitVec.ofNat 9 n) else none

/-- A stamp code. -/
def stampCodeOf (n : Nat) : Option (Fin 32) := if h : n < 32 then some ⟨n, h⟩ else none

/-! ### Strip-link messages -/

/-- The fields of a well-formed STRIP HEADER: exposure number, segment id, first row, row count. -/
structure Header where
  exposure : Nat
  seg : Nat
  first : Nat
  count : Nat
  deriving DecidableEq, Repr

/-- A STRIP HEADER of other than 2 words is malformed (R178). -/
def headerOf : List Word → Option Header
  | [w0, w1] => some { exposure := highHalf w0, seg := lowHalf w0, first := highHalf w1, count := lowHalf w1 }
  | _ => none

/-- The raw pixels of a well-formed ROW: word 0 carries the pixel count, and the pixels follow two to a
word; a ROW whose word count is not 1 + ceil(pixel count / 2) is malformed (R178). -/
def rowPixels : List Word → Option (List Pixel)
  | [] => none
  | w0 :: ws =>
    if ws.length = (lowHalf w0 + 1) / 2 then
      some ((ws.flatMap fun w => [w.extractLsb' 16 16, w.extractLsb' 0 16]).take (lowHalf w0))
    else none

/-- The CRC-32 a well-formed STRIP END carries (R178). -/
def stripEndCrc : List Word → Option Word
  | [w] => some w
  | _ => none

end Sys2Proof.Machine
end

