-- ==== Sys2Proof/Machine/Ops.lean ====
section
/-! DEFINITION. The operations the commands share, over one block or over the whole part: contexts and
resolution, summaries, catalogue entries, verdicts and strip buffers, operations in progress, replies. -/

namespace Sys2Proof.Machine

/-! ### Contexts, resolution and release (R35 to R37, R48) -/

/-- The other context. -/
def otherCtx : Ctx → Ctx
  | .A => .B
  | .B => .A

/-- A context is open in EXPOSING, GATHERING and CLOSING (R35). -/
def Context.isOpen (x : Context) : Bool :=
  match x.state with
  | .exposing | .gathering | .closing => true
  | .free | .held => false

/-- The progress record of a segment, if the segment is in the expected set (R54). -/
def Context.record (x : Context) (seg : Nat) : Option Progress := x.progress.find? fun p => p.seg == seg

/-- An open context holds a segment of its expected set that is not withdrawn (R35). -/
def Context.holds (x : Context) (seg : Nat) : Bool :=
  x.isOpen && x.progress.any fun p => p.seg == seg && !p.withdrawn

/-- The newest installed version tagged at or below an epoch (R36). -/
def newestAtOrBelow (vs : List Installed) (epoch : Nat) : Option Installed :=
  (vs.filter fun i => i.epoch ≤ epoch).getLast?

/-- The installed version of an entry that a context resolves (R36). -/
def Context.resolve (x : Context) (e : Entry) : Option Installed :=
  if x.isOpen then newestAtOrBelow e.installed x.epoch else none

/-- A context of exposure control. -/
def Exc.ctx (x : Exc) : Ctx → Context
  | .A => x.ctxA
  | .B => x.ctxB

/-- Replace a context. -/
def Exc.setCtx (x : Exc) (c : Ctx) (k : Context) : Exc :=
  match c with
  | .A => { x with ctxA := k }
  | .B => { x with ctxB := k }

/-- Both contexts. -/
def Exc.contexts (x : Exc) : List Context := [x.ctxA, x.ctxB]

/-- The non-FREE context that carries an exposure number (R48: at most one does). -/
def Exc.carrying (x : Exc) (number : Nat) : Option Ctx :=
  if x.ctxA.state ≠ .free ∧ x.ctxA.number = number then some .A
  else if x.ctxB.state ≠ .free ∧ x.ctxB.number = number then some .B
  else none

/-- A context of the part. -/
def State.ctx (s : State) (c : Ctx) : Context := s.exc.ctx c

/-- Change a context of the part. -/
def State.changeCtx (s : State) (c : Ctx) (f : Context → Context) : State :=
  { s with exc := s.exc.setCtx c (f (s.exc.ctx c)) }

/-! ### Summaries (R63, R64) -/

/-- Change a summary's counts while counts still reach it: the context is open and the summary is not
fixed (R64). -/
def Context.count (x : Context) (f : Summary → Summary) : Context :=
  if x.isOpen && x.summary.fixed.isNone then { x with summary := f x.summary } else x

/-- Change the counts of a context's summary. -/
def State.count (s : State) (c : Ctx) (f : Summary → Summary) : State := s.changeCtx c fun x => x.count f

/-- The verdict codes (10.3). -/
def VerdictCode.toNat : VerdictCode → Nat
  | .accepted => 0
  | .flushed => 1
  | .held => 2
  | .late => 3
  | .notReady => 4
  | .unknownExposure => 5
  | .unknownSegment => 6
  | .retired => 7
  | .notExpected => 8
  | .segmentBusy => 9
  | .duplicate => 10
  | .gap => 11
  | .broken => 12
  | .crc => 13

/-- Count one refusal: verdict code n at position n - 1; ACCEPTED is no refusal (R63). -/
def Summary.refuse (m : Summary) (code : VerdictCode) : Summary :=
  { m with refusals := m.refusals.mapIdx fun i n => if i + 1 = code.toNat then countUp n else n }

/-! ### The catalogue (R2, R15, R17, R24, R30) -/

/-- Lookup by segment id: the index and the entry (R2). -/
def Cat.find (c : Cat) (seg : Nat) : Option (Nat × Entry) := c.entries.find? fun e => e.2.seg == seg

/-- Change every entry that is not VACANT. -/
def Cat.mapEntries (c : Cat) (f : Entry → Entry) : Cat :=
  { c with entries := c.entries.map fun e => (e.1, f e.2) }

/-- Change the entry of a segment. -/
def Cat.changeEntry (c : Cat) (seg : Nat) (f : Entry → Entry) : Cat :=
  c.mapEntries fun e => if e.seg = seg then f e else e

/-- Changes of entries already folded set the disturbed mark of a running walk (R24). -/
def Cat.disturb (c : Cat) (segs : List Nat) : Cat :=
  if c.sign.status = .running ∧ segs.any (fun g => g < c.sign.position) then { c with sign.disturbed := true } else c

/-- Clear the in-flight marker that names a buffer (R17). -/
def Cat.clearMarker (c : Cat) (p : Fin 4) (b : Fin 2) : Cat :=
  c.mapEntries fun e => if e.marker = some { port := p, buffer := b } then { e with marker := none } else e

/-- An entry keeps, of its installed versions, the newest and those an open context resolves (R30). -/
def Entry.keepNeeded (e : Entry) (xs : List Context) : Entry :=
  { e with installed := e.installed.filter fun i =>
      e.installed.getLast? == some i || xs.any fun x => x.resolve e == some i }

/-- A RETIRING entry that no open context holds becomes VACANT at a release (R30, R37). -/
def Entry.vacated (e : Entry) (xs : List Context) : Bool :=
  e.state == .retiring && !xs.any fun x => x.holds e.seg

/-- Release versions and entries against some contexts (R30 step 4, R37). -/
def Cat.release (c : Cat) (xs : List Context) : Cat :=
  let gone := (c.entries.filter fun e => e.2.vacated xs).map fun e => e.2.seg
  { c.disturb gone with
    entries := (c.entries.filter fun e => !e.2.vacated xs).map fun e => (e.1, e.2.keepNeeded xs) }

/-- What a boundary with a given epoch does to one entry at steps 2 and 3 (R29, R30). -/
def Entry.atBoundary (e : Entry) (epoch : Nat) : Entry :=
  match e.staged with
  | some (.version v) =>
    { e with
      state := if e.state = .pending then .live else e.state
      installed := e.installed ++ [{ version := v, epoch := epoch }]
      staged := none
      suspect := false
      broken := 0 }
  | some .retirement => { e with state := if e.state = .live then .retiring else e.state, staged := none }
  | none => e

/-- The steps of a boundary (R27), against the contexts open before it. -/
def Cat.boundary (c : Cat) (xs : List Context) : Cat :=
  let changed := (c.entries.filter fun e => e.2.staged.isSome).map fun e => e.2.seg
  let installed : Cat := { (c.disturb changed).mapEntries (fun e => e.atBoundary (c.epoch + 1)) with epoch := c.epoch + 1 }
  installed.release xs

/-- The version a context resolves for a segment (R36). -/
def State.resolved (s : State) (c : Ctx) (seg : Nat) : Option Version :=
  (s.cat.find seg).bind fun e => ((s.ctx c).resolve e.2).map fun i => i.version

/-- A progress record is finished: its next row is the row count of the version the context resolves
(R54). -/
def State.finished (s : State) (c : Ctx) (p : Progress) : Bool :=
  match s.resolved c p.seg with
  | some v => p.next == v.rows
  | none => false

/-- The missing and withdrawn lists of a context's summary: as fixed, or from its progress table (R63,
R64). -/
def State.lists (s : State) (c : Ctx) : FixedLists :=
  match (s.ctx c).summary.fixed with
  | some l => l
  | none =>
    { missing := ((s.ctx c).progress.filter fun p => !p.withdrawn && !s.finished c p).map fun p => p.seg
      withdrawn := ((s.ctx c).progress.filter fun p => p.withdrawn).map fun p => p.seg }

/-- Release against the contexts that are open now (R37). -/
def State.release (s : State) : State := { s with cat := s.cat.release s.exc.contexts }

/-- An accepted-strip report (R15). -/
def Cat.acceptedReport (c : Cat) (seg : Nat) : Cat := c.changeEntry seg fun e => { e with broken := 0 }

/-- The broken count after one more broken strip (R15). -/
def Entry.brokenNext (e : Entry) : Nat := min Config.brokenMax (e.broken + 1)

/-- A broken-strip report sets the suspect flag (R15). -/
def Entry.becomesSuspect (e : Entry) (limit : Nat) : Bool := limit != 0 && limit ≤ e.brokenNext && !e.suspect

/-- A broken-strip report: the count, and at BROKEN_LIMIT the suspect flag and SUSPECT (R15). -/
def State.brokenReport (s : State) (seg : Nat) : State :=
  let limit := s.params.brokenLimit
  let turned := match s.cat.find seg with
    | some e => e.2.becomesSuspect limit
    | none => false
  let s := { s with cat := s.cat.changeEntry seg fun e =>
    { e with broken := e.brokenNext, suspect := e.suspect || e.becomesSuspect limit } }
  if turned then s.raise .suspect else s

/-! ### Operations in progress (R28, R42, R51, R165) -/

/-- The long-request slot holds a request of this kind (R165). -/
def State.running (s : State) (k : LongKind) : Bool := s.cmd.long.any fun l => l.kind == k

/-- A retire batch application is in progress (R42). -/
def State.applying (s : State) : Bool :=
  match s.cat.batch with
  | .applying _ => true
  | .closed | .window _ | .due => false

/-- An installation is in progress: an opening's, or that of a COMMIT that waits for no batch application
(R27, R33). -/
def State.installing (s : State) : Bool := s.exc.opening.isSome || (s.running .commit && !s.applying)

/-- The catalogue refuses changes BUSY (R28). -/
def State.catalogueBusy (s : State) : Bool := s.installing || s.applying

/-- An opening, a COMMIT, a retire batch application or a FLUSH is in progress (R51). -/
def State.openingBlocked (s : State) : Bool :=
  s.exc.opening.isSome || s.running .commit || s.applying || s.running .flush

/-- A waiting batch application begins when no installation and no FLUSH is in progress (R42, R47). -/
def State.beginDueBatch (s : State) : State :=
  if s.cat.batch = .due ∧ s.installing = false ∧ s.running .flush = false then { s with cat.batch := .applying false }
  else s

/-- A long request completes: its result, its slot and WORK_DONE as one change (R165). -/
def State.completeLong (s : State) (result : LongOutcome) (value : Option Word) : State :=
  match s.cmd.long with
  | some l => { s with cmd.last := some { kind := l.kind, tag := l.tag, result := result, value := value }, cmd.long := none }.raise .workDone
  | none => s

/-! ### Ports, buffers and verdicts (R74, R75, R85, R86, R88) -/

/-- The strip in a buffer. -/
def Buffer.strip? : Buffer → Option Strip
  | .idle => none
  | .receiving t => some t
  | .ready t => some t
  | .committing t => some t

/-- READY or COMMITTING (R75). -/
def Buffer.isComplete : Buffer → Bool
  | .ready _ | .committing _ => true
  | .idle | .receiving _ => false

/-- The strip of a buffer that another block may abandon: RECEIVING or READY (R88). -/
def Buffer.abandonable? : Buffer → Option Strip
  | .receiving t | .ready t => some t
  | .idle | .committing _ => none

/-- A RECEIVING buffer. -/
def Buffer.isReceiving : Buffer → Bool
  | .receiving _ => true
  | .idle | .ready _ | .committing _ => false

/-- The hold indication (R75). -/
def Port.hold (p : Port) : Bool := p.buffers[0].isComplete && p.buffers[1].isComplete

/-- The RECEIVING buffer of a port and its strip; a port holds at most one (R70). -/
def Port.receiving? (p : Port) : Option (Fin 2 × Strip) :=
  match p.buffers[0], p.buffers[1] with
  | .receiving t, _ => some (0, t)
  | _, .receiving t => some (1, t)
  | _, _ => none

/-- A buffer becomes IDLE; the other is then the older by itself (R74). -/
def Port.free (p : Port) (b : Fin 2) : Port := { p with buffers := p.buffers.set b .idle, older := none }

/-- The other buffer of a port. -/
def otherBuffer (b : Fin 2) : Fin 2 := if b = 0 then 1 else 0

/-- The buffers of a port, the older first (R74, R88). -/
def Port.oldestFirst (p : Port) : List (Fin 2) :=
  match p.older with
  | some b => [b, otherBuffer b]
  | none => [0, 1]

/-- A verdict joins the queue of an UP port that holds fewer than 8; otherwise it is not sent (R86). -/
def Port.queue (p : Port) (v : Verdict) : Port :=
  if p.up && p.verdicts.length < Config.verdictMax then { p with verdicts := p.verdicts ++ [v] } else p

/-- A strip port of the part. -/
def State.port (s : State) (p : Fin 4) : Port := s.ports[p]

/-- Change a strip port. -/
def State.changePort (s : State) (p : Fin 4) (f : Port → Port) : State :=
  { s with ports := s.ports.set p (f s.ports[p]) }

/-- The next expected row of a verdict (R85). -/
def Exc.nextExpected (x : Exc) (exposure seg : Nat) : Nat :=
  match x.carrying exposure with
  | some c =>
    match (x.ctx c).record seg with
    | some r => r.next
    | none => 0
  | none => 0

/-- A refusal is counted in the summary of the context that carries the exposure number (R64). -/
def State.countRefusal (s : State) (exposure : Nat) (code : VerdictCode) : State :=
  match s.exc.carrying exposure with
  | some c => s.count c fun m => m.refuse code
  | none => s

/-- Give a strip its verdict: queued on its port and, but for ACCEPTED, counted (R64, R85, R86). -/
def State.giveVerdict (s : State) (p : Fin 4) (exposure seg first : Nat) (code : VerdictCode) : State :=
  (s.changePort p fun q =>
    q.queue { seg := seg, first := first, code := code, next := s.exc.nextExpected exposure seg }).countRefusal
    exposure code

/-- A buffer becomes IDLE and the marker that names it is cleared (R17). -/
def State.freeBuffer (s : State) (p : Fin 4) (b : Fin 2) : State :=
  { s.changePort p (fun q => q.free b) with cat := s.cat.clearMarker p b }

/-- End a strip that is broken or fails its CRC (R76, R84); the receive state is the caller's. -/
def State.breakStrip (s : State) (p : Fin 4) (b : Fin 2) (t : Strip) (code : VerdictCode) : State :=
  ((s.giveVerdict p t.exposure t.seg t.first code).freeBuffer p b).brokenReport t.seg

/-- Another block abandons a buffer with a verdict, if it is RECEIVING or READY (R88). -/
def State.abandon (s : State) (p : Fin 4) (b : Fin 2) (code : VerdictCode) : State :=
  match (s.port p).buffers[b].abandonable? with
  | some t =>
    let wasReceiving := (s.port p).buffers[b].isReceiving
    let s := (s.giveVerdict p t.exposure t.seg t.first code).freeBuffer p b
    if wasReceiving then s.changePort p fun q => { q with receive := .discarding } else s
  | none => s

/-- Abandon, in port order and the older buffer of a port first, every RECEIVING or READY buffer whose
strip is chosen (R88). -/
def State.abandonWhere (s : State) (chosen : Strip → Bool) (code : VerdictCode) : State :=
  [0, 1, 2, 3].foldl (fun s p =>
    (s.port p).oldestFirst.foldl (fun s b =>
      if ((s.port p).buffers[b].abandonable?).any chosen then s.abandon p b code else s) s) s

/-- A port comes UP (R71). -/
def Port.comeUp (p : Port) : Port := { p with up := true, receive := .awaiting }

/-- The buffers a port abandons at going DOWN (R72). -/
def Port.abandonedAtDown (p : Port) : List (Fin 2) :=
  [0, 1].filter fun b : Fin 2 => p.buffers[b].abandonable?.isSome

/-- A port goes DOWN (R72): its RECEIVING and READY buffers are abandoned without verdict, its verdict
queue is emptied, and LINK_FAULT is raised. -/
def State.goDown (s : State) (p : Fin 4) : State :=
  let gone := (s.port p).abandonedAtDown
  let s := gone.foldl (fun s b => s.freeBuffer p b) s
  (s.changePort p fun q =>
    { q with up := false, receive := .awaiting, verdicts := [],
             abandonedDown := addUpTo Config.countMax q.abandonedDown gone.length }).raise .linkFault

/-! ### Replies (R163, R164, R167) -/

/-- What an owner answers: a status and a payload. -/
structure Answer where
  status : Status
  payload : List Byte
  deriving DecidableEq, Repr

/-- OK with an empty payload. -/
def Answer.ok : Answer := { status := .ok, payload := [] }

/-- A refusal with an empty payload. -/
def Answer.refuse (st : Status) : Answer := { status := st, payload := [] }

/-- INVALID with its field or argument code (R164). -/
def Answer.invalid (code : Nat) : Answer := { status := .invalid, payload := [BitVec.ofNat 8 code] }

/-- The codes of the reply statuses (10.1). -/
def Status.code : Status → Byte
  | .ok => 1
  | .accepted => 2
  | .deferred => 3
  | .busy => 4
  | .invalid => 5
  | .exists_ => 6
  | .full => 7
  | .unknownSegment => 8
  | .inUse => 9
  | .state => 10
  | .overrun => 11
  | .epochLimit => 12
  | .frameError => 13
  | .unknownRequest => 14
  | .starting => 15

/-- The bytes of a reply with its CRC-8 (R163). -/
def Reply.bytes (r : Reply) : List Byte :=
  let body := r.status.code :: r.tag :: BitVec.ofNat 8 r.payload.length :: r.payload
  body ++ [crc8 body]

/-- The bytes clocked out during a frame of some length: the reply slot, then zeros; an empty slot is all
zeros (R163). -/
def clockedOut (slot : Option Reply) (length : Nat) : List Byte :=
  ((match slot with | some r => r.bytes | none => []) ++ List.replicate length 0).take length

/-- The frame clocks the reply slot out (R163). -/
def State.clockOut (s : State) (length : Nat) : State :=
  { s with cmd.dataOut := clockedOut s.cmd.replySlot length }

/-- The reply to a frame is placed in the reply slot (R163). -/
def State.place (s : State) (tag : Byte) (a : Answer) : State :=
  { s with cmd.replySlot := some { status := a.status, tag := tag, payload := a.payload } }

/-- How a request meets STARTING and the READ MORE cursor (R164, R167, R168). -/
inductive RequestClass where
  /-- NOP and STATUS: taken in every part state, leaves the cursor. -/
  | always
  /-- READ MORE: leaves the cursor to its own rule. -/
  | more
  /-- Every other request: cancels the cursor when taken. -/
  | ordinary
  deriving DecidableEq, Repr

/-- Every taken request but NOP, STATUS and READ MORE cancels the cursor (R164). -/
def State.cancelFor (s : State) (k : RequestClass) : State :=
  match k with
  | .ordinary => { s with cmd.cursor := none }
  | .always | .more => s

/-- What every request has in common (R163, R164): the reply slot is clocked out; a STARTING part takes NOP
and STATUS alone; a payload whose length does not fit is INVALID with code 47; a taken request cancels
the cursor; the owner then acts and answers, and the reply is placed. -/
def State.request (s : State) (k : RequestClass) (fits : Bool) (f : Frame) (owner : State → State × Answer) : State :=
  let s := s.clockOut f.length
  if s.part = .starting ∧ k ≠ .always then s.place f.tag (.refuse .starting)
  else
    let s := s.cancelFor k
    if fits then (owner s).1.place f.tag (owner s).2 else s.place f.tag (.invalid 47)

/-- A READ request answered OK: the answer, led by its own length, is captured whole, the reply carries its
first chunk, and the cursor is set after it (R166). -/
def State.capture (s : State) (items : List Byte) : State × Answer :=
  let answer := bytesOf 2 (items.length + 2) ++ items
  ({ s with cmd.store := answer, cmd.cursor := some (min Config.payloadMax answer.length) },
   { status := .ok, payload := answer.take Config.payloadMax })

/-! ### Full reset (R174) -/

/-- A full reset reaches every block. What stays is no state of the part: the waiting commands, the pause
line's level (R137), the cell memory, which STARTING then clears (R112), the bytes last clocked out, and
the number of the next free value. -/
def State.fullReset (s : State) : State :=
  { State.reset with
    pending := s.pending
    cop := { state := .reset, pause := s.cop.pause, sent := none }
    ctb := { Ctb.reset with memory := s.ctb.memory }
    cmd := { Cmd.reset with dataOut := s.cmd.dataOut, free := s.cmd.free } }

end Sys2Proof.Machine
end

