-- ==== Sys2Proof/Machine/Watches.lean ====
section
/-! DEFINITION. Watch matching (R149, R150) and the requests of the watch and attention units (chapter 8)
that are not READ requests. -/

namespace Sys2Proof.Machine

/-- The region holds a sky pixel (R149). -/
def WatchSetting.regionHolds (g : WatchSetting) (x y : Nat) : Bool :=
  g.x0 ≤ x && x ≤ g.x1 && g.y0 ≤ y && y ≤ g.y1

/-- The region and a cell's square share a sky pixel (R144, R149). -/
def WatchSetting.overlaps (g : WatchSetting) (cell : CellIndex) : Bool :=
  g.x0 ≤ 64 * cell.cx + 63 && 64 * cell.cx ≤ g.x1 && g.y0 ≤ 64 * cell.cy + 63 && 64 * cell.cy ≤ g.y1

/-- The watch matches an ACCEPTED pixel with calibrated value `v` of a segment (R106, R149). -/
def WatchSetting.matchesAccepted (g : WatchSetting) (x y seg : Nat) (v : Int) : Bool :=
  g.regionHolds x y &&
    match g.kind with
    | .covered => true
    | .peakAbove => decide (g.threshold < v)
    | .segment => g.threshold == (seg : Int)
    | .saturated | .cellDone | .cellPartial => false

/-- The watch matches a SATURATED pixel on the grid (R106, R149). -/
def WatchSetting.matchesSaturated (g : WatchSetting) (x y : Nat) : Bool :=
  g.regionHolds x y && g.kind == .saturated

/-- The watch matches a slot queued with a completeness (R144). -/
def WatchSetting.matchesQueued (g : WatchSetting) (cell : CellIndex) (k : Completeness) : Bool :=
  g.overlaps cell &&
    match k with
    | .complete => g.kind == .cellDone
    | .partly | .forced => g.kind == .cellPartial

/-- One match on a record: the count stops at 65535, and the first match is kept (R150). -/
def Watch.hit (w : Watch) (h : FirstHit) : Watch :=
  { w with count := addUpTo Config.hitMax w.count 1, first := some (w.first.getD h) }

/-- The watches a report matches: the enabled ones whose setting passes the test. -/
def Watch.passes (w : Watch) (test : WatchSetting → Bool) : Bool := w.setting.any test

/-- One match (R150): the record, the summary's watch hits, the slot's watch set, and WATCH when the hit
flag goes from clear to set. -/
def State.matchWatch (s : State) (c : Ctx) (slot : Nat) (h : FirstHit) (w : Fin 8) : State :=
  let first := s.watches[w].first.isNone
  let s := { s with
    watches := s.watches.set w (s.watches[w].hit h)
    ctb.slots := s.ctb.slots.change slot fun t => { t with watchSet := t.watchSet ||| BitVec.twoPow 8 w.val } }
  let s := s.count c fun m => { m with watchHits := countUp m.watchHits }
  if first then s.raise .watch else s

/-- A report against every enabled watch (R149, R150). -/
def State.report (s : State) (test : WatchSetting → Bool) (c : Ctx) (slot : Nat) (h : FirstHit) : State :=
  [0, 1, 2, 3, 4, 5, 6, 7].foldl (fun s w => if s.watches[w].passes test then s.matchWatch c slot h w else s) s

/-! ### Requests -/

/-- The threshold a watch of a kind records: kinds that do not use it record 0 (R152). -/
def thresholdOf (k : WatchKind) (t : Int) : Int :=
  match k with
  | .peakAbove | .segment => t
  | .covered | .saturated | .cellDone | .cellPartial => 0

/-- The threshold is in the kind's range (R152). -/
def thresholdFits (k : WatchKind) (t : Int) : Bool :=
  match k with
  | .peakAbove => -Config.valueMax ≤ t && t ≤ Config.valueMax
  | .segment => 0 ≤ t && t ≤ 1023
  | .covered | .saturated | .cellDone | .cellPartial => true

/-- SET WATCH at the watch unit (R152). -/
def State.setWatch (f : Frame) (s : State) : State × Answer :=
  match watchNumberOf (f.nat 0 1) with
  | none => (s, .invalid 42)
  | some w =>
    match watchKindOf (f.nat 1 1) with
    | none => (s, .invalid 43)
    | some k =>
      if f.nat 2 2 > f.nat 4 2 ∨ f.nat 6 2 > f.nat 8 2 then (s, .invalid 44)
      else if thresholdFits k (f.int 10 4) = false then (s, .invalid 45)
      else
        let g : WatchSetting :=
          { kind := k, x0 := f.nat 2 2, x1 := f.nat 4 2, y0 := f.nat 6 2, y1 := f.nat 8 2,
            threshold := thresholdOf k (f.int 10 4) }
        let w' : Watch := { setting := some g, count := 0, first := none }
        ({ s with watches := s.watches.set w w' }, .ok)

/-- CLEAR WATCH at the watch unit (R153). -/
def State.clearWatch (f : Frame) (s : State) : State × Answer :=
  match watchNumberOf (f.nat 0 1) with
  | none => (s, .invalid 42)
  | some w => ({ s with watches := s.watches.set w Watch.cleared }, .ok)

/-- The attention flags in two bytes (10.1). -/
def flagBytes (flags : BitVec 9) : List Byte := bytesOf 2 flags.toNat

/-- SET ENABLE at the attention unit (R158). -/
def State.setEnable (f : Frame) (s : State) : State × Answer :=
  match causeSetOf (f.nat 0 2) with
  | none => (s, .invalid 46)
  | some e => ({ s with att.enables := e }, { status := .ok, payload := flagBytes s.att.flags })

/-- SET ENABLE (R158). -/
def execSetEnable (f : Frame) (s : State) : Host.Outcome State Fault Refusal :=
  .next (s.request .ordinary (f.fits 2) f (State.setEnable f))

/-- The hit state of a watch is acknowledged (R155). -/
def Watch.acknowledge (w : Watch) : Watch := { w with count := 0, first := none }

/-- The hit states of the watches a mask names are acknowledged (R155). -/
def acknowledgeWatches (ws : Vector Watch 8) (mask : BitVec 8) : Vector Watch 8 :=
  ws.mapIdx fun i w => if mask.getLsbD i then w.acknowledge else w

/-- ACKNOWLEDGE at the attention and watch units (R155, R159). -/
def State.acknowledge (f : Frame) (s : State) : State × Answer :=
  match causeSetOf (f.nat 0 2) with
  | none => (s, .invalid 46)
  | some k =>
    let flags := s.att.flags &&& ~~~ k
    ({ s with att.flags := flags, watches := acknowledgeWatches s.watches (f.payload.getD 2 0) },
      { status := .ok, payload := flagBytes flags })

/-! ### Watch requests between two slots (R151) -/

/-- SET WATCH, CLEAR WATCH or ACKNOWLEDGE as the port takes it; no other command is a watch request (R151). -/
def State.takeWatchRequest (s : State) : Instr → Option State
  | .setWatch f => some (s.request .ordinary (f.fits 14) f (State.setWatch f))
  | .clearWatch f => some (s.request .ordinary (f.fits 1) f (State.clearWatch f))
  | .acknowledge f => some (s.request .ordinary (f.fits 3) f (State.acknowledge f))
  | _ => none

/-- A watch request in its turn: one that was taken between two slots has had its effect and its reply, and what is
left of it is the bytes its frame clocked out (log 35); another is taken. -/
def State.inTurn (s : State) (c : Instr) : State :=
  match s.cmd.taken with
  | [] => (s.takeWatchRequest c).getD s
  | out :: rest => { s with cmd.dataOut := out, cmd.taken := rest }

/-- The first command of the queue that has not been taken. -/
def State.nextWaiting (s : State) : Option Instr := s.pending[s.cmd.taken.length]?

/-- Up to `k` of the watch requests that wait first in the queue are taken ahead of their turn; they stay in the
queue until it comes. -/
def State.takeAhead : Nat → State → State
  | 0, s => s
  | k + 1, s =>
    match s.nextWaiting.bind s.takeWatchRequest with
    | none => s
    | some t => State.takeAhead k { t with cmd.dataOut := s.cmd.dataOut, cmd.taken := s.cmd.taken ++ [t.cmd.dataOut] }

/-- What a watch request that waits may do before a slot of a check or a close is matched: a free number of them is
taken (R151; log 35). Where none waits, nothing happens. -/
def State.betweenSlots (s : State) : State :=
  match s.nextWaiting.bind s.takeWatchRequest with
  | none => s
  | some _ => State.takeAhead (Config.requestsBetween s.cmd.free) { s with cmd.free := s.cmd.free + 1 }

/-- SET WATCH (R152). -/
def execSetWatch (f : Frame) (s : State) : Host.Outcome State Fault Refusal := .next (s.inTurn (.setWatch f))

/-- CLEAR WATCH (R153). -/
def execClearWatch (f : Frame) (s : State) : Host.Outcome State Fault Refusal := .next (s.inTurn (.clearWatch f))

/-- ACKNOWLEDGE (R159). -/
def execAcknowledge (f : Frame) (s : State) : Host.Outcome State Fault Refusal := .next (s.inTurn (.acknowledge f))

end Sys2Proof.Machine
end

