-- ==== Sys2Proof/Machine/CellTable.lean ====
section
/-! DEFINITION. The cell table (chapter 6): sky index, opening, completion, queueing, drops under a FLUSH,
spill, and the attempts made for a waiting row. -/

namespace Sys2Proof.Machine

/-! ### Slots, index, parts -/

/-- The sky index (R113): the OPEN slot that holds a cell for a context. -/
def Ctb.index (t : Ctb) (c : Ctx) (cell : CellIndex) : Option Nat :=
  (t.slots.find? fun e => e.2.state == .opened && e.2.ctx == c && e.2.cell == cell).map fun e => e.1

/-- Change a slot that is not FREE. -/
def State.changeSlot (s : State) (n : Nat) (f : Slot → Slot) : State :=
  { s with ctb.slots := s.ctb.slots.change n f }

/-- The slots with every one of them changed. -/
def Ctb.mapSlots (t : Ctb) (f : Slot → Slot) : Table Slot := t.slots.map fun e => (e.1, f e.2)

/-- The record of last part numbers of a context (R115). -/
def Ctb.parts (t : Ctb) : Ctx → Table Nat
  | .A => t.partsA
  | .B => t.partsB

/-- Replace the record of last part numbers of a context. -/
def Ctb.setParts (t : Ctb) (c : Ctx) (r : Table Nat) : Ctb :=
  match c with
  | .A => { t with partsA := r }
  | .B => { t with partsB := r }

/-- The number a cell index has in a record of last part numbers. -/
def CellIndex.key (cell : CellIndex) : Nat := cell.cy * 1024 + cell.cx

/-- The part number of the last part of a cell queued for a context, 0 if none (R115, R134). -/
def Ctb.lastPart (t : Ctb) (c : Ctx) (cell : CellIndex) : Nat := ((t.parts c).read cell.key).getD 0

/-- The lowest-numbered FREE slot (R114). -/
def Ctb.lowestFree (t : Ctb) : Option Nat := t.slots.lowest Config.slotCount

/-- Change the current commit. -/
def State.changeCommit (s : State) (f : Commit → Commit) : State :=
  { s with ple.commit := s.ple.commit.map f }

/-! ### Opening a cell (R114 to R117) -/

/-- A segment's contributor record for a cell, if its resolved version maps a pixel into it (R116, R117). -/
def State.contributor (s : State) (c : Ctx) (cell : CellIndex) (p : Progress) : Option Contributor :=
  if p.withdrawn then none
  else
    ((s.resolved c p.seg).bind fun v => v.rowRange cell).map fun range =>
      { seg := p.seg, first := range.1, last := range.2
        state := if p.next ≤ range.2 then .expected else .done
        suspect := none, pixels := 0 }

/-- The contributor records of every segment that qualifies, ascending (R116). -/
def State.qualifying (s : State) (c : Ctx) (cell : CellIndex) : List Contributor :=
  (s.ctx c).progress.filterMap (s.contributor c cell)

/-- The record of a slot that opens (R114): OPEN, pinned, cleared, with its part number and the eight
lowest qualifying segments. -/
def State.newSlot (s : State) (c : Ctx) (cell : CellIndex) : Slot :=
  { state := .opened, ctx := c, cell := cell, part := s.ctb.lastPart c cell + 1, completeness := none
    contributors := (s.qualifying c cell).take Config.contributorMax
    pixels := 0, defect := 0, saturated := 0, crowded := 0, damaged := 0
    crowdedFlag := decide (Config.contributorMax < (s.qualifying c cell).length)
    damagedFlag := false, watchSet := 0, pinned := true }

/-- The first stage of an opening (R114): the record is made, indexed and touched, and the commit waits for
the clearing of the slot's memory. -/
def State.openCell (s : State) (c : Ctx) (cell : CellIndex) (n : Nat) : State :=
  { s with
    ctb.slots := s.ctb.slots.write n (s.newSlot c cell)
    ctb.touch := s.ctb.touch ++ [n] }.changeCommit fun k => { k with opening := some n }

/-! ### Queueing, dropping, completion (R119, R120, R133) -/

/-- Take a slot out of the touch order. -/
def removeTouch (touch : List Nat) (n : Nat) : List Nat := touch.filter fun i => i != n

/-- Queue a slot with its completeness (R120): state, touch order, emission queue, last part number, and
the cell-kind watches. -/
def State.queueSlot (s : State) (n : Nat) (k : Completeness) : State :=
  match s.ctb.slots.read n with
  | none => s
  | some t =>
    let ctb : Ctb := { s.ctb with
      slots := s.ctb.slots.change n fun t => { t with state := .queued, completeness := some k, pinned := false }
      touch := removeTouch s.ctb.touch n
      queue := s.ctb.queue ++ [.slot n] }
    let s := { s with ctb := ctb.setParts t.ctx ((ctb.parts t.ctx).write t.cell.key t.part) }
    s.report (fun g => g.matchesQueued t.cell k) t.ctx n
      { exposure := (s.ctx t.ctx).number, cell := t.cell, seg := none }

/-- Queue a slot of a completion check or a forced close, one of the slots that are matched one after another as they
are queued: watch requests that wait may be taken before it (R151, log 35). -/
def State.queueNext (s : State) (n : Nat) (k : Completeness) : State := s.betweenSlots.queueSlot n k

/-- Drop an OPEN slot under a FLUSH: it becomes FREE and leaves index and touch order (R133). -/
def State.dropSlot (s : State) (n : Nat) : State :=
  { s with ctb.slots := s.ctb.slots.remove n, ctb.touch := removeTouch s.ctb.touch n }

/-- Every contributor is DONE or WITHDRAWN (R119). -/
def Slot.isComplete (t : Slot) : Bool := t.contributors.all fun k => k.state != .expected

/-- The commit's row holds the slots it pins: it has not reached its ADVANCE phase (R102, R119), which is
within ROW ADVANCE (log 11). -/
def State.rowHolds (s : State) : Bool := s.ple.commit.any fun k => k.phase != .advance

/-- A completion check of one slot (R119): a complete OPEN slot is queued COMPLETE, or dropped under a
FLUSH, unless the row holds it or it is a final part. -/
def State.checkSlot (s : State) (n : Nat) : State :=
  match s.ctb.slots.read n with
  | none => s
  | some t =>
    if t.state = .opened ∧ t.isComplete ∧ ¬(t.pinned ∧ s.rowHolds) ∧ t.part ≠ Config.finalPart then
      if s.exc.flushing then s.dropSlot n else s.queueNext n .complete
    else s

/-- A completion check of some slots, in touch order (R119). -/
def State.checkSlots (s : State) (which : Slot → Bool) : State :=
  (s.ctb.touch.filter fun n => (s.ctb.slots.read n).any which).foldl State.checkSlot s

/-- A forced close of one slot: queued PARTIAL, or dropped under a FLUSH (R128, R133). -/
def State.closeSlot (s : State) (n : Nat) : State :=
  if s.exc.flushing then s.dropSlot n else s.queueNext n .partly

/-- The forced close of a context: its OPEN slots in touch order (R128). -/
def State.forcedClose (s : State) (c : Ctx) : State :=
  (s.ctb.touch.filter fun n => (s.ctb.slots.read n).any fun t => t.state == .opened && t.ctx == c).foldl
    State.closeSlot s

/-! ### Spill (R124, R125) -/

/-- The slot passes a test. -/
def Ctb.slotIs (t : Ctb) (n : Nat) (test : Slot → Bool) : Bool := (t.slots.read n).any test

/-- A candidate for spill: OPEN, unpinned, not a final part (R124). -/
def Slot.isCandidate (t : Slot) : Bool := t.state == .opened && !t.pinned && t.part != Config.finalPart

/-- The open context opened earlier, whose cells are given up first (R124). -/
def Exc.elder (x : Exc) : Ctx :=
  if x.ctxA.isOpen && x.ctxB.isOpen then (if x.ctxA.epoch ≤ x.ctxB.epoch then .A else .B)
  else if x.ctxA.isOpen then .A
  else .B

/-- The least recently touched candidate of a context. -/
def Ctb.candidate (t : Ctb) (c : Ctx) : Option Nat :=
  t.touch.find? fun n => t.slotIs n fun k => k.isCandidate && k.ctx == c

/-- The spill victim (R124). -/
def State.victim (s : State) : Option Nat :=
  (s.ctb.candidate s.exc.elder).orElse fun _ => s.ctb.candidate (otherCtx s.exc.elder)

/-- Queue up to `k` victims FORCED, each with SPILL raised, each choice on what the one before left
(R125). -/
def State.spill : Nat → State → State
  | 0, s => s
  | k + 1, s =>
    match s.victim with
    | none => s
    | some n =>
      State.spill k (((s.queueSlot n .forced).raise .spill).changeCommit fun m => { m with victims := m.victims ++ [n] })

/-! ### The waiting row (R123, R133) -/

/-- The least recently touched OPEN slot that is not pinned, which a FLUSH drops for a waiting row (R133). -/
def Ctb.droppable (t : Ctb) : Option Nat :=
  t.touch.find? fun n => t.slotIs n fun k => k.state == .opened && !k.pinned

/-- Give the first cell without a slot the lowest FREE slot (R123, step 1). -/
def State.openMissing (s : State) (k : Commit) (cell : CellIndex) (rest : List CellIndex) (n : Nat) : State :=
  (s.openCell k.ctx cell n).changeCommit fun m => { m with missing := rest }

/-- Step 1 of an attempt when slot `n` is FREE: the first cell without a slot is opened in it. An opening
completes before the next begins, so while one runs the slot stays FREE until the opening completes. -/
def State.giveFree (s : State) (k : Commit) (cell : CellIndex) (rest : List CellIndex) (n : Nat) : State :=
  if k.opening = none then s.openMissing k cell rest n else s

/-- Step 2 of an attempt, with no slot FREE (R123, R133): under a FLUSH a slot is dropped and given to the row,
otherwise SPILL 1 spills at once, also while an opening runs (R125). -/
def State.giveMore (s : State) (k : Commit) (cell : CellIndex) (rest : List CellIndex) : State :=
  if s.exc.flushing then
    match s.ctb.droppable with
    | some n => (s.dropSlot n).giveFree k cell rest n
    | none => s
  else if s.params.spill then State.spill (k.missing.length - k.victims.length) s
  else s

/-- An attempt for the waiting request (R123). An attempt that opens a cell goes on at the opening's
completion. With no cell left the row goes to PLACE, once no opening runs. -/
def State.attempt (s : State) : State :=
  match s.ple.commit with
  | none => s
  | some k =>
    if k.phase = .wait then
      match k.missing with
      | [] => if k.opening = none then s.changeCommit fun m => { m with phase := .place, col := 0, victims := [] } else s
      | cell :: rest =>
        match s.ctb.lowestFree with
        | some n => s.giveFree k cell rest n
        | none => s.giveMore k cell rest
    else s

/-- A slot is freed (R132): FREE, no longer a victim outstanding, and an attempt for a waiting row. -/
def State.freeSlot (s : State) (n : Nat) : State :=
  ({ s with ctb.slots := s.ctb.slots.remove n }.changeCommit fun k =>
    { k with victims := k.victims.filter fun i => i != n }).attempt

end Sys2Proof.Machine
end

