-- ==== Sys2Proof/Machine/CellOutput.lean ====
section
/-! DEFINITION. The cell output port (chapter 7): taking the head of the emission queue, building and
sending cell records, trailers and abort markers, and the words of 10.4. -/

namespace Sys2Proof.Machine

/-! ### Words on the cell link (10.4) -/

/-- A flag as a bit. -/
def flagNat (b : Bool) : Nat := if b then 1 else 0

/-- The codes of completeness (10.4); absent is 0 and is never sent. -/
def completenessCode : Option Completeness → Nat
  | some .complete => 1
  | some .partly => 2
  | some .forced => 3
  | none => 0

/-- The codes of a contributor's state (10.4). -/
def ContributorState.code : ContributorState → Nat
  | .expected => 0
  | .done => 1
  | .withdrawn => 2

/-- The codes of an end cause (10.4); absent is 0 and is never sent. -/
def endCauseCode : Option EndCause → Nat
  | some .natural => 1
  | some .limit => 2
  | some .ended => 3
  | none => 0

/-- The codes of a context (10.1). -/
def ctxCode : Ctx → Nat
  | .A => 0
  | .B => 1

/-- A word holding a count or an unsigned quantity. -/
def natWord (n : Nat) : Word := BitVec.ofNat 32 n

/-- The three words of a contributor (10.4). -/
def Contributor.words (k : Contributor) : List Word :=
  [wordOfHalves k.seg (k.state.code * 256 + flagNat (k.suspect.getD false) * 128), wordOfHalves k.first k.last,
   natWord k.pixels]

/-- The header unit: 9 + 3k words (10.4). -/
def CellHeader.words (h : CellHeader) : List Word :=
  [natWord (h.instanceNo % 16 * 268435456 + completenessCode h.completeness * 67108864
      + flagNat h.crowdedFlag * 33554432 + flagNat h.damagedFlag * 16777216 + flagNat h.suspectFlag * 8388608
      + h.exposure % 65536),
   natWord h.epoch, wordOfHalves h.cell.cx h.cell.cy,
   wordOfHalves h.part (h.watchSet.toNat * 256 + h.contributors.length),
   natWord h.pixels, natWord h.defect, natWord h.saturated, natWord h.crowded, natWord h.damaged]
    ++ h.contributors.flatMap Contributor.words

/-- An output pixel's two words; a BLANK pixel is two zero words (10.4). -/
def pixelWords (p : Option OutputPixel) : List Word :=
  match p with
  | some q => [BitVec.ofInt 32 q.value, natWord q.weight]
  | none => [0, 0]

/-- Payload unit ROW y: 64 output pixels in rising x (10.4). -/
def rowWords (rows : Table OutputPixel) (y : Nat) : List Word :=
  (List.range 64).flatMap fun x => pixelWords (rows.read (y * 64 + x))

/-- The CRC-32 of a cell record: every header word and every payload word (R177). -/
def recordCrc (h : CellHeader) (rows : Table OutputPixel) : Word :=
  crc32Value (crc32Words crc32Start (h.words ++ (List.range 64).flatMap (rowWords rows)))

/-- The words of a unit by its position: the header, or a row, the last row with the CRC-32 (R142). -/
def unitWords (h : CellHeader) (rows : Table OutputPixel) (position : Nat) : List Word :=
  if position = 0 then h.words
  else if position = 64 then rowWords rows 63 ++ [recordCrc h rows]
  else rowWords rows (position - 1)

/-- Segment ids two to a word, the first of each pair in bits 31..16 (10.4). -/
def pairWords : List Nat → List Word
  | [] => []
  | [a] => [wordOfHalves a 0]
  | a :: b :: rest => wordOfHalves a b :: pairWords rest

/-- The words of a trailer before its CRC-32 (10.4). -/
def Trailer.bodyWords (t : Trailer) : List Word :=
  [natWord (t.instanceNo % 16 * 268435456 + ctxCode t.ctx * 134217728 + endCauseCode t.endCause * 33554432
      + t.number % 65536),
   natWord t.epoch, natWord t.expected, natWord t.summary.finished, natWord t.summary.accepted]
    ++ t.summary.refusals.toList.map natWord
    ++ [natWord t.summary.pixels, natWord t.summary.defect, natWord t.summary.saturated,
        natWord t.summary.offGrid, natWord t.summary.crowded, natWord t.summary.cellsComplete,
        natWord t.summary.cellsPartial, natWord t.summary.cellsForced, natWord t.summary.damaged,
        natWord t.summary.watchHits, wordOfHalves t.lists.missing.length t.lists.withdrawn.length]
    ++ pairWords t.lists.missing ++ pairWords t.lists.withdrawn

/-- The words of a trailer (10.4, R177). -/
def Trailer.words (t : Trailer) : List Word :=
  t.bodyWords ++ [crc32Value (crc32Words crc32Start t.bodyWords)]

/-! ### Taking the head (R131, R138, R145) -/

/-- The trailer of a context as it stands (R145). -/
def State.trailerOf (s : State) (c : Ctx) : Trailer :=
  { instanceNo := s.params.instanceNo, ctx := c, number := (s.ctx c).number, epoch := (s.ctx c).epoch
    endCause := (s.ctx c).endCause, expected := (s.ctx c).progress.length
    summary := { (s.ctx c).summary with fixed := some (s.lists c) }, lists := s.lists c }

/-- The summary of a context is fixed as it stands (R64). -/
def State.fixSummary (s : State) (c : Ctx) : State :=
  s.changeCtx c fun x => { x with summary := { x.summary with fixed := some (s.lists c) } }

/-- An IDLE port takes the head of the emission queue when the pause state is clear and no FLUSH is past
its first step (R138). A slot becomes EMITTING and is prepared; a trailer is built, its summary is fixed,
and it stands before its first word. -/
def State.takeHead (s : State) : State :=
  if s.cop.state = .idle ∧ s.cop.pause = false ∧ s.exc.flushing = false then
    match s.ctb.queue with
    | [] => s
    | .slot n :: rest =>
      { s with
        ctb := { s.ctb with queue := rest, slots := s.ctb.slots.change n fun t => { t with state := .emitting } }
        cop.state := .preparing n }
    | .trailer c :: rest =>
      { s.fixSummary c with
        ctb := { s.ctb with queue := rest }
        cop.state := .sendingTrailer (s.trailerOf c) .atFirst }
  else s

/-! ### Preparation (R139 to R141) -/

/-- The read of one record finds an error (R139): a single-bit error is corrected and counted; an
uncorrectable one clears the pair, marks the sky pixel damaged (counting it once), and raises MEMORY. -/
def State.memoryError (s : State) (n position : Nat) (e : MemoryError) : State :=
  match e with
  | .single => { s with ctb.corrected := countUp s.ctb.corrected }
  | .uncorrectable =>
    let r := Memory.read s.ctb.memory (skyAddress n position)
    let s := { s with
      ctb.memory := Memory.write s.ctb.memory (skyAddress n position) { sum := 0, weight := 0, damaged := true } }
    let s := if r.damaged then s
      else s.changeSlot n fun t => { t with damaged := t.damaged + 1, damagedFlag := true }
    s.raise .memory

/-- The errors of some reads of a slot's records, in order. -/
def State.memoryErrors (s : State) (n : Nat) (found : List (Nat × MemoryError)) : State :=
  found.foldl (fun s e => s.memoryError n e.1 e.2) s

/-- The output pixel of a sky-pixel record; `none` is BLANK (R140). -/
def SkyRecord.output (r : SkyRecord) : Option OutputPixel :=
  if r.damaged ∨ r.weight = 0 then none else some { value := roundDiv r.sum r.weight, weight := r.weight }

/-- The output rows of a slot: its pixels that are not BLANK, by position (R139). -/
def outputRows (m : Memory) (n : Nat) : Table OutputPixel :=
  m.filterMap fun e =>
    if e.1 / Config.cellPixels = n then e.2.output.map fun p => (e.1 % Config.cellPixels, p) else none

/-- The suspect flag of the entry a lookup finds now, clear if none (R141). -/
def Cat.suspectNow (c : Cat) (seg : Nat) : Bool :=
  match c.find seg with
  | some e => e.2.suspect
  | none => false

/-- The contributors with their suspect-at-emission values filled in (R141). -/
def Slot.withSuspects (t : Slot) (c : Cat) : Slot :=
  { t with contributors := t.contributors.map fun k => { k with suspect := some (c.suspectNow k.seg) } }

/-- The header of a slot's record (R141); the slot's suspect values are filled in. -/
def State.headerOf (s : State) (t : Slot) : CellHeader :=
  { instanceNo := s.params.instanceNo, exposure := (s.ctx t.ctx).number, epoch := (s.ctx t.ctx).epoch
    cell := t.cell, part := t.part, completeness := t.completeness, crowdedFlag := t.crowdedFlag
    damagedFlag := t.damagedFlag, suspectFlag := t.contributors.any fun k => k.suspect.getD false
    watchSet := t.watchSet, contributors := t.contributors, pixels := t.pixels, defect := t.defect
    saturated := t.saturated, crowded := t.crowded, damaged := t.damaged }

/-- The end of a preparation (R139 to R141): the errors its reads found, the output rows, the header; the
port then stands before the header, held if the pause state is raised (R143). -/
def State.prepare (s : State) (n : Nat) (found : List (Nat × MemoryError)) : State :=
  let s := s.memoryErrors n found
  let s := s.changeSlot n fun t => t.withSuspects s.cat
  match s.ctb.slots.read n with
  | none => s
  | some t =>
    { s with cop.state := .sendingCell n (s.headerOf t) (outputRows s.ctb.memory n) 0 s.cop.pause }

/-- PREPARATION END (R139). -/
def execPreparationEnd (found : List (Nat × MemoryError)) (s : State) : Host.Outcome State Fault Refusal :=
  match s.cop.state with
  | .preparing n => .next (s.prepare n found)
  | _ => .next s

/-! ### Sending (R142, R143, R145, R146) -/

/-- The count of cells emitted for a completeness, and the damaged pixels (R63, R142). -/
def Summary.emitted (m : Summary) (k : Option Completeness) (damaged : Nat) : Summary :=
  { m with
    cellsComplete := if k = some .complete then countUp m.cellsComplete else m.cellsComplete
    cellsPartial := if k = some .partly then countUp m.cellsPartial else m.cellsPartial
    cellsForced := if k = some .forced then countUp m.cellsForced else m.cellsForced
    damaged := addUpTo Config.countMax m.damaged damaged }

/-- A cell record has been sent whole (R142): the slot is freed, which makes an attempt for a waiting row;
the summary counts the record; the port becomes IDLE and takes the next head if it may. -/
def State.recordSent (s : State) (n : Nat) : State :=
  let counted := match s.ctb.slots.read n with
    | some t => (s.freeSlot n).count t.ctx fun m => m.emitted t.completeness t.damaged
    | none => s
  State.takeHead { counted with cop.state := .idle }

/-- UNIT SENT (R142): the unit in progress has been sent. At the next unit the port checks the pause state
(R143). A port held before a unit has none in progress. -/
def execUnitSent (s : State) : Host.Outcome State Fault Refusal :=
  match s.cop.state with
  | .sendingCell n h rows position false =>
    let t := { s with cop.sent := some (.cellWords position (unitWords h rows position)) }
    if position < 64 then .next { t with cop.state := .sendingCell n h rows (position + 1) t.cop.pause }
    else .next (t.recordSent n)
  | _ => .next s

/-- A context reaches DONE (R61): EXPOSURE_DONE, HELD or FREE by SUMMARY_HOLD, release, and the record of
last part numbers cleared. -/
def State.reachDone (s : State) (c : Ctx) : State :=
  let s := s.raise .exposureDone
  let s := s.changeCtx c fun x => if s.params.summaryHold then { x with state := .held } else Context.free
  let s := s.release
  { s with ctb := s.ctb.setParts c [] }

/-- TRAILER SENT (R145): the trailer has been sent whole and its context reaches DONE. A trailer held before
its first word has not been sent. -/
def execTrailerSent (s : State) : Host.Outcome State Fault Refusal :=
  match s.cop.state with
  | .sendingTrailer t point =>
    if point = .held then .next s
    else
      let u := { s with cop.sent := some (.trailerWords t.words), cop.state := .idle }
      .next (u.reachDone t.ctx).takeHead
  | _ => .next s

/-- ABORT MARKER SENT (R146): the port becomes IDLE and takes the next head if it may. -/
def execAbortMarkerSent (s : State) : Host.Outcome State Fault Refusal :=
  match s.cop.state with
  | .aborting false => .next (State.takeHead { s with cop.sent := some .abortMarker, cop.state := .idle })
  | _ => .next s

/-- The port checks the pause state again at the point it is held at (R143). -/
def PortState.resume : PortState → PortState
  | .sendingCell n h rows position _ => .sendingCell n h rows position false
  | .sendingTrailer t point => .sendingTrailer t (if point = .held then .atFirst else point)
  | .aborting _ => .aborting false
  | .reset => .reset
  | .idle => .idle
  | .preparing n => .preparing n

/-- A trailer at its pause point when the line rises (R138): held, unless its first word has gone. -/
def TrailerPoint.risen (gone : Bool) : TrailerPoint := if gone then .begun else .held

/-- PAUSE LINE RISE (R137, R138, R143): the pause state is raised. A unit being sent goes on to its end. A
trailer taken and not known to have begun is held before its first word, unless that word has gone: either
may be first, and the choice is a free value (log 12). -/
def execPauseLineRise (s : State) : Host.Outcome State Fault Refusal :=
  match s.cop.state with
  | .sendingTrailer t .atFirst =>
    .next { s with
      cop.pause := true
      cop.state := .sendingTrailer t (TrailerPoint.risen (Config.firstWordGone s.cmd.free))
      cmd.free := s.cmd.free + 1 }
  | _ => .next { s with cop.pause := true }

/-- PAUSE LINE FALL (R138, R143): a held port goes on, and an IDLE one takes the head of the queue. -/
def execPauseLineFall (s : State) : Host.Outcome State Fault Refusal :=
  .next (State.takeHead { s with cop.pause := false, cop.state := s.cop.state.resume })

/-- The errors that the reads of a preparation had found when a FLUSH cut it, in payload order: free values
(log 29). -/
def errorsBeforeCut (draw : Nat) : List (Nat × MemoryError) :=
  (List.range Config.cellPixels).filterMap fun i => (Config.foundBeforeCut draw i).map fun e => (i, e)

/-- What the reads of a preparation found before a FLUSH cuts it stands (R146): corrections counted, pairs
cleared and marked, MEMORY raised. -/
def State.readBeforeCut (s : State) : State :=
  match s.cop.state with
  | .preparing n =>
    State.memoryErrors { s with cmd.free := s.cmd.free + 1 } n (errorsBeforeCut s.cmd.free)
  | .reset | .idle | .sendingCell _ _ _ _ _ | .sendingTrailer _ _ | .aborting _ => s

/-- Step 5 of a FLUSH at the port (R146): an emission is cut, its slot made FREE, and the port has an
abort marker to send at its next check of the pause state. -/
def State.cutEmission (s : State) : State :=
  match s.cop.state with
  | .preparing n | .sendingCell n _ _ _ _ =>
    { s with ctb.slots := s.ctb.slots.remove n, cop.state := .aborting s.cop.pause }
  | .sendingTrailer _ _ => { s with cop.state := .aborting s.cop.pause }
  | .reset | .idle | .aborting _ => s

/-- What the cell link carries between units (R136): the reset pattern, or idle fill while the port has
nothing to send, prepares, or is held. -/
inductive LinkSignal where
  | resetPattern
  | idleFill
  | sending
  deriving DecidableEq, Repr

/-- The signalling on the cell link (R136, R143). -/
def Cop.signal (c : Cop) : LinkSignal :=
  match c.state with
  | .reset => .resetPattern
  | .idle | .preparing _ => .idleFill
  | .sendingCell _ _ _ _ held | .aborting held => if held then .idleFill else .sending
  | .sendingTrailer _ point => if point = .held then .idleFill else .sending

end Sys2Proof.Machine
end

