-- ==== Sys2Proof/Machine/Exposure.lean ====
section
/-! DEFINITION. Exposure control (chapter 3): the end of gathering, openings and closings, the shutter
latch, boundaries as they complete, the exposure requests, and FLUSH. -/

namespace Sys2Proof.Machine

/-! ### The end of gathering (R57, R59) -/

/-- The end of gathering begins with a cause: the timer stops, and step 1 abandons the context's RECEIVING
and READY strips LATE (R56, R59). Steps 3 and 4 are the command FORCED CLOSE. -/
def State.beginEnd (s : State) (c : Ctx) (cause : EndCause) : State :=
  (s.changeCtx c fun x => { x with endCause := some cause, timer := none }).abandonWhere (fun t => t.ctx == c) .late

/-- Every segment of the expected set that is not withdrawn is finished (R57). -/
def State.allFinished (s : State) (c : Ctx) : Bool :=
  (s.ctx c).progress.all fun p => p.withdrawn || s.finished c p

/-- The context gathers and its end has not begun (R60). -/
def Context.gathers (x : Context) : Bool := x.state == .gathering && x.endCause.isNone

/-- The context gathers and its end has begun, but its forced close is still to come (R60). -/
def Context.ending (x : Context) : Bool := x.state == .gathering && x.endCause.isSome

/-- The natural-end check of one context (R57); under a FLUSH it finds none (R67). -/
def State.naturalEnd (s : State) (c : Ctx) : State :=
  if (s.ctx c).gathers ∧ s.exc.flushing = false ∧ s.allFinished c then s.beginEnd c .natural else s

/-- A trailer is queued and its context enters CLOSING in the same change (R58, R59, R130). -/
def State.queueTrailer (s : State) (c : Ctx) : State :=
  { s.changeCtx c (fun x => { x with state := .closing, timer := none }) with
    ctb := { s.ctb with queue := s.ctb.queue ++ [.trailer c] } }

/-- A commit of a strip of the context is in progress (R59). -/
def State.committingFor (s : State) (c : Ctx) : Bool := s.ple.commit.any fun k => k.ctx == c

/-- GATHER TIMER EXPIRY (R56): a running timer of a gathering context whose end has not begun ends
gathering with cause LIMIT. A stopped timer does not expire. -/
def execGatherTimerExpiry (c : Ctx) (s : State) : Host.Outcome State Fault Refusal :=
  if (s.ctx c).timer.isSome ∧ (s.ctx c).gathers then .next (s.beginEnd c .limit) else .next s

/-- FORCED CLOSE (R59 steps 3 and 4, R128): once no commit of the context is in progress, its OPEN slots are
queued PARTIAL (dropped under a FLUSH) and its trailer is queued behind them. -/
def execForcedClose (c : Ctx) (s : State) : Host.Outcome State Fault Refusal :=
  if (s.ctx c).ending ∧ s.committingFor c = false then .next ((s.forcedClose c).queueTrailer c).takeHead
  else .next s

/-! ### Closing (R55) -/

/-- The context that is EXPOSING (R52: at most one is). -/
def Exc.exposing (x : Exc) : Option Ctx :=
  if x.ctxA.state = .exposing then some .A else if x.ctxB.state = .exposing then some .B else none

/-- An EXPOSING context enters GATHERING: its timer starts with GATHER_LIMIT, unless a FLUSH keeps both
timers stopped (R56, R67), and the natural-end check is made (R57). -/
def State.closeContext (s : State) (c : Ctx) : State :=
  (s.changeCtx c fun x =>
    { x with state := .gathering
             timer := if s.exc.flushing then none else some s.params.gatherLimit }).naturalEnd c

/-- A closing edge that is taken (R55). -/
def State.takeClosing (s : State) : State :=
  match s.exc.exposing with
  | some c => s.closeContext c
  | none => s.raise .shutterFault

/-! ### Opening (R49, R52) -/

/-- The context an opening chooses: A if A is FREE, otherwise B (R52). -/
def Exc.chosen (x : Exc) : Ctx := if x.ctxA.state = .free then .A else .B

/-- The number an opening takes: NEXT_EXPOSURE, or the following number when the other context is not FREE
and carries it (R49). -/
def State.openingNumber (s : State) : Nat :=
  let other := s.ctx (otherCtx s.exc.chosen)
  if other.state ≠ .free ∧ other.number = s.params.nextExposure then (s.params.nextExposure + 1) % 65536
  else s.params.nextExposure

/-- What stands against an opening when nothing is in progress (R52, orders 2 to 4). -/
inductive OpeningBar where
  | exposing
  | noFree
  | epochLimit
  deriving DecidableEq, Repr

/-- The first of the conditions 2 to 4 of R52 that holds. -/
def State.openingBar (s : State) : Option OpeningBar :=
  if s.exc.exposing.isSome then some .exposing
  else if s.exc.ctxA.state ≠ .free ∧ s.exc.ctxB.state ≠ .free then some .noFree
  else if Config.countMax ≤ s.cat.epoch then some .epochLimit
  else none

/-- Steps 1 and 2 of an opening (R52): the context is chosen, it takes its number, and NEXT_EXPOSURE
advances. The boundary is then in progress. -/
def State.beginOpening (s : State) : State :=
  { s with
    exc.opening := some { ctx := s.exc.chosen, number := s.openingNumber }
    params.nextExposure := (s.openingNumber + 1) % 65536 }

/-- An opening edge that is taken (R52, orders 2 to 5). -/
def State.takeOpening (s : State) : State :=
  match s.openingBar with
  | some .exposing => s.raise .shutterFault
  | some .noFree => s.raise .overrun
  | some .epochLimit => s.raise .overrun
  | none => s.beginOpening

/-! ### The shutter latch (R50, R51) -/

/-- Serve the latched closing edge, once no opening edge is ahead of it and no opening is performed. -/
def State.serveClosing (s : State) : State :=
  if s.exc.latch.closing ∧ s.exc.latch.opening = false ∧ s.exc.opening = none then
    State.takeClosing { s with exc.latch.closing := false }
  else s

/-- Serve the latch, when no opening, COMMIT, batch application or FLUSH is in progress (R51): the opening
edge first, then the closing edge, unless the opening edge began an opening. -/
def State.serveLatch (s : State) : State :=
  if s.openingBlocked then s
  else if s.exc.latch.opening then
    (State.takeOpening { s with exc.latch.opening := false }).serveClosing
  else s.serveClosing

/-- Edges act on a READY part with SHUTTER_USE 1 (R50). -/
def State.edgesAct (s : State) : Bool := s.part == .ready && s.params.shutterUse

/-- OPENING EDGE (R50 to R52). -/
def execOpeningEdge (s : State) : Host.Outcome State Fault Refusal :=
  if s.edgesAct = false then .next s
  else if s.exc.latch.opening ∨ s.exc.latch.closing then .next (s.raise .overrun)
  else if s.openingBlocked then .next { s with exc.latch.opening := true }
  else .next s.takeOpening

/-- CLOSING EDGE (R50, R51, R55, R156). -/
def execClosingEdge (s : State) : Host.Outcome State Fault Refusal :=
  if s.edgesAct = false then .next s
  else if s.exc.latch.closing then .next (s.raise .shutterFault)
  else if s.exc.latch.opening ∨ s.exc.opening.isSome then .next { s with exc.latch.closing := true }
  else .next s.takeClosing

/-! ### Boundaries complete (R27, R31, R33, R52) -/

/-- Segment ids in ascending order. -/
def insertAscending (n : Nat) : List Nat → List Nat
  | [] => [n]
  | m :: rest => if n ≤ m then n :: m :: rest else m :: insertAscending n rest

/-- The ids of the LIVE entries, ascending (R31). -/
def Cat.liveSegments (c : Cat) : List Nat :=
  ((c.entries.filter fun e => e.2.state == .live).map fun e => e.2.seg).foldr insertAscending []

/-- The context an opening makes (R52 step 4). -/
def openedContext (number epoch : Nat) (expected : List Nat) : Context :=
  { state := .exposing, number := number, epoch := epoch
    progress := expected.map fun g => { seg := g, next := 0, withdrawn := false }
    timer := none, endCause := none, summary := Summary.start }

/-- OPENING COMPLETE (R31, R52): the boundary is performed against the contexts open beside the new one,
the new context pins its epoch and enters EXPOSING; a waiting batch application begins, and the latch is
served. -/
def execOpeningComplete (s : State) : Host.Outcome State Fault Refusal :=
  match s.exc.opening with
  | none => .next s
  | some o =>
    let cat := s.cat.boundary s.exc.contexts
    let s : State := { s with cat := cat, exc.opening := none }
    .next ((s.changeCtx o.ctx fun _ => openedContext o.number cat.epoch cat.liveSegments).beginDueBatch.serveLatch)

/-- COMMIT BOUNDARY COMPLETE (R33): a COMMIT that waits for no batch application completes with the
boundary's epoch; a waiting batch application begins, and the latch is served. -/
def execCommitBoundaryComplete (s : State) : Host.Outcome State Fault Refusal :=
  if s.running .commit ∧ s.applying = false ∧ s.exc.opening = none then
    let cat := s.cat.boundary s.exc.contexts
    .next ((State.completeLong { s with cat := cat } .ok (some (natWord cat.epoch))).beginDueBatch.serveLatch)
  else .next s

/-! ### Exposure requests (R52, R55, R58, R62) -/

/-- OPEN EXPOSURE at exposure control (R52); the OK reply carries the context, the number and the epoch the
boundary will take. -/
def State.openExposure (s : State) : State × Answer :=
  if s.openingBlocked ∨ s.exc.latch.opening ∨ s.exc.latch.closing then (s, .refuse .busy)
  else
    match s.openingBar with
    | some .exposing => (s, .refuse .state)
    | some .noFree => (s.raise .overrun, .refuse .overrun)
    | some .epochLimit => (s.raise .overrun, .refuse .epochLimit)
    | none =>
      (s.beginOpening,
        { status := .ok
          payload := bytesOf 1 (ctxCode s.exc.chosen) ++ bytesOf 2 s.openingNumber ++ bytesOf 4 (s.cat.epoch + 1) })

/-- OPEN EXPOSURE (R52). -/
def execOpenExposure (f : Frame) (s : State) : Host.Outcome State Fault Refusal :=
  .next (s.request .ordinary (f.fits 0) f State.openExposure)

/-- CLOSE SHUTTER at exposure control (R55). -/
def State.closeShutter (s : State) : State × Answer :=
  if s.exc.latch.opening ∨ s.exc.opening.isSome ∨ s.running .flush then (s, .refuse .busy)
  else
    match s.exc.exposing with
    | some c =>
      (s.closeContext c, { status := .ok, payload := bytesOf 1 (ctxCode c) ++ bytesOf 2 (s.ctx c).number })
    | none => (s, .refuse .state)

/-- CLOSE SHUTTER (R55). -/
def execCloseShutter (f : Frame) (s : State) : Host.Outcome State Fault Refusal :=
  .next (s.request .ordinary (f.fits 0) f State.closeShutter)

/-- END EXPOSURE of a context (R58). -/
def State.endExposureOf (s : State) (c : Ctx) : State × Answer :=
  match (s.ctx c).state with
  | .exposing => (((s.changeCtx c fun x => { x with endCause := some .ended }).queueTrailer c).takeHead, .ok)
  | .gathering => (if (s.ctx c).endCause.isNone then s.beginEnd c .ended else s, .ok)
  | .free | .closing | .held => (s, .refuse .state)

/-- END EXPOSURE at exposure control (R58). -/
def State.endExposure (f : Frame) (s : State) : State × Answer :=
  match ctxOf (f.nat 0 1) with
  | none => (s, .invalid 38)
  | some c => if s.running .flush then (s, .refuse .busy) else s.endExposureOf c

/-- END EXPOSURE (R58). -/
def execEndExposure (f : Frame) (s : State) : Host.Outcome State Fault Refusal :=
  .next (s.request .ordinary (f.fits 1) f (State.endExposure f))

/-- RELEASE EXPOSURE at exposure control (R62). -/
def State.releaseExposure (f : Frame) (s : State) : State × Answer :=
  match ctxOf (f.nat 0 1) with
  | none => (s, .invalid 38)
  | some c =>
    if s.running .flush then (s, .refuse .busy)
    else if (s.ctx c).state = .held then (s.changeCtx c fun _ => Context.free, .ok)
    else (s, .refuse .state)

/-- RELEASE EXPOSURE (R62). -/
def execReleaseExposure (f : Frame) (s : State) : Host.Outcome State Fault Refusal :=
  .next (s.request .ordinary (f.fits 1) f (State.releaseExposure f))

/-! ### FLUSH (R66 to R68) -/

/-- A long request takes the slot and is answered ACCEPTED (R165). -/
def State.acceptLong (s : State) (k : LongKind) (tag : Byte) : State × Answer :=
  ({ s with cmd.long := some { kind := k, tag := tag } }, .refuse .accepted)

/-- FLUSH at exposure control (R66). -/
def State.flushRequest (f : Frame) (s : State) : State × Answer :=
  if s.cmd.long.isSome then (s, .refuse .busy) else s.acceptLong .flush f.tag

/-- FLUSH (R66). -/
def execFlush (f : Frame) (s : State) : Host.Outcome State Fault Refusal :=
  .next (s.request .ordinary (f.fits 0) f (State.flushRequest f))

/-- The slots of the emission queue, head first. -/
def queuedSlots (q : List QueueItem) : List Nat :=
  q.filterMap fun i => match i with
    | .slot n => some n
    | .trailer _ => none

/-- The trailers of the emission queue, head first. -/
def queuedTrailers (q : List QueueItem) : List QueueItem :=
  q.filter fun i => match i with
    | .slot _ => false
    | .trailer _ => true

/-- Step 2 of a FLUSH: the queued slots leave the queue and are freed; trailers stay (R67, R133). The order of
the freeings, head of the queue first, is the model's choice (log 8). -/
def State.flushQueue (s : State) : State :=
  (queuedSlots s.ctb.queue).foldl State.freeSlot { s with ctb.queue := queuedTrailers s.ctb.queue }

/-- FLUSH FIRST STEP (R67): its conditions come into force (both gather timers stopped), a waiting row
receives an attempt (R123), step 1 abandons every RECEIVING and READY buffer, step 2 frees the queued
slots. It waits for an installation or a batch application in progress. -/
def execFlushFirstStep (s : State) : Host.Outcome State Fault Refusal :=
  if s.running .flush ∧ s.exc.flushing = false ∧ s.exc.opening = none ∧ s.applying = false then
    let s := { s with exc.flushing := true, exc.ctxA.timer := none, exc.ctxB.timer := none }
    .next (s.attempt.abandonWhere (fun _ => true) .flushed).flushQueue
  else .next s

/-- Steps 4 and 6 of a FLUSH at the cell table (R68, R133): every OPEN and QUEUED slot is made FREE, and
the index, the touch order and the queue become empty. -/
def Ctb.emptied (t : Ctb) : Ctb :=
  { t with slots := t.slots.filter (fun e => e.2.state == .emitting), touch := [], queue := [] }

/-- Steps 4 to 8 of a FLUSH (R67, R68), after what a preparation being cut has found (R146). -/
def State.flushRest (s : State) : State :=
  let s := s.readBeforeCut
  let s := { s with ctb := s.ctb.emptied }.cutEmission
  let s := { s with
    exc.ctxA := Context.free, exc.ctxB := Context.free, exc.flushing := false, ctb.partsA := [], ctb.partsB := [] }
  s.release

/-- FLUSH COMPLETE (R67, R68): once no commit and no end of gathering is in progress, steps 4 to 8 are
taken and the FLUSH completes; a waiting batch application begins, and the latch is served. -/
def execFlushComplete (s : State) : Host.Outcome State Fault Refusal :=
  if s.running .flush ∧ s.exc.flushing ∧ s.ple.commit = none ∧ s.exc.ctxA.ending = false ∧ s.exc.ctxB.ending = false then
    .next (((s.flushRest.completeLong .ok none).beginDueBatch.serveLatch).takeHead)
  else .next s

end Sys2Proof.Machine
end

