-- ==== Sys2Proof/Machine/Versions.lean ====
section
/-! DEFINITION. Versions as the catalogue builds, checks and lays them out: the staging record (R6 to R11),
the bytes of R23, and the stamps a version uses (R20). -/

namespace Sys2Proof.Machine

/-! ### The staging record -/

/-- A value in a range. -/
def inRange (lo hi v : Nat) : Option Nat := if lo ≤ v ∧ v ≤ hi then some v else none

/-- A step of the geometry: -131,072..+131,072 (R4). -/
def stepInRange (v : Int) : Option Int := if -131072 ≤ v ∧ v ≤ 131072 then some v else none

/-- The flat values of a PUT FIELD payload: a count, then that many values (R179). -/
def flatOf (f : Frame) : Option (List Nat) :=
  let k := f.nat 1 1
  let vs := (List.range k).map fun i => f.nat (2 + 2 * i) 2
  if 1 ≤ k ∧ k ≤ 16 ∧ vs.all (fun v => 0 < v) then some vs else none

/-- A placement of a PUT FIELD payload (R7). -/
def placementOf (f : Frame) : Option Placement :=
  if f.nat 1 2 ≤ 4095 ∧ f.nat 3 2 ≤ 1023 ∧ f.nat 5 1 ≤ 31 then
    some { row := f.nat 1 2, col := f.nat 3 2, stamp := f.nat 5 1 }
  else none

/-- PUT FIELD of a field code 1..30 into the staging record; `none` when the value is out of range (R7). -/
def Staging.put (g : Staging) (code : Nat) (f : Frame) : Option Staging :=
  match code with
  | 1 => (inRange 1 4096 (f.nat 1 2)).map fun v => { g with rows := some v }
  | 2 => (inRange 1 1024 (f.nat 1 2)).map fun v => { g with cols := some v }
  | 3 => some { g with originX := some (f.nat 1 4) }
  | 4 => some { g with originY := some (f.nat 1 4) }
  | 5 => (stepInRange (f.int 1 4)).map fun v => { g with colStepX := some v }
  | 6 => (stepInRange (f.int 1 4)).map fun v => { g with colStepY := some v }
  | 7 => (stepInRange (f.int 1 4)).map fun v => { g with rowStepX := some v }
  | 8 => (stepInRange (f.int 1 4)).map fun v => { g with rowStepY := some v }
  | 9 => some { g with bias := some (f.nat 1 2) }
  | 10 => (inRange 1 65535 (f.nat 1 2)).map fun v => { g with gain := some v }
  | 11 => (flatOf f).map fun vs => { g with flat := some vs }
  | 12 => (inRange 1 65535 (f.nat 1 2)).map fun v => { g with saturation := some v }
  | 13 => (inRange 1 255 (f.nat 1 1)).map fun v => { g with weight := some v }
  | 14 => (inRange 0 16 (f.nat 1 1)).map fun v => { g with defectCount := some v }
  | i => (placementOf f).map fun p => { g with defects := g.defects.write (i - 15) p }

/-- The staging record holding a version (R10): every field present, the placements below its count present
and those above absent. -/
def Staging.ofVersion (v : Version) : Staging :=
  { rows := some v.rows, cols := some v.cols, originX := some v.originX, originY := some v.originY
    colStepX := some v.colStepX, colStepY := some v.colStepY, rowStepX := some v.rowStepX, rowStepY := some v.rowStepY
    bias := some v.bias, gain := some v.gain, flat := some v.flat, saturation := some v.saturation
    weight := some v.weight, defectCount := some v.defects.length
    defects := v.defects.zipIdx.map fun e => (e.2, e.1) }

/-- A field that must be present, by its code (R11). -/
def present {α : Type} (code : Nat) : Option α → Except Nat α
  | some v => .ok v
  | none => .error code

/-- The placements at positions `i` to `i + k - 1`, checked against ROWS and COLUMNS (R11). -/
def Staging.placements (g : Staging) (rows cols : Nat) : Nat → Nat → Except Nat (List Placement)
  | 0, _ => .ok []
  | k + 1, i =>
    match g.defects.read i with
    | none => .error (15 + i)
    | some p =>
      if rows ≤ p.row ∨ cols ≤ p.col then .error (15 + i)
      else
        match g.placements rows cols k (i + 1) with
        | .ok ps => .ok (p :: ps)
        | .error e => .error e

/-- The flat bands of a number of columns (R5). -/
def flatBands (cols : Nat) : Nat := (cols + 63) / 64

/-- Validation of the staging record, in ascending field code: the version it holds, or the first failing
code (R11, R12). -/
def Staging.version (g : Staging) : Except Nat Version := do
  let rows ← present 1 g.rows
  let cols ← present 2 g.cols
  let originX ← present 3 g.originX
  let originY ← present 4 g.originY
  let colStepX ← present 5 g.colStepX
  let colStepY ← present 6 g.colStepY
  let rowStepX ← present 7 g.rowStepX
  let rowStepY ← present 8 g.rowStepY
  let bias ← present 9 g.bias
  let gain ← present 10 g.gain
  let flat ← present 11 g.flat
  let flat ← if flat.length = flatBands cols then .ok flat else .error 11
  let saturation ← present 12 g.saturation
  let weight ← present 13 g.weight
  let count ← present 14 g.defectCount
  let defects ← g.placements rows cols count 0
  return { rows, cols, originX, originY, colStepX, colStepY, rowStepX, rowStepY, bias, gain, flat, saturation,
           weight, defects }

/-! ### Bytes (R23) -/

/-- Fields 1 to 8. -/
def Version.geometryBytes (v : Version) : List Byte :=
  bytesOf 2 v.rows ++ bytesOf 2 v.cols ++ bytesOf 4 v.originX ++ bytesOf 4 v.originY
    ++ bytesOfInt 4 v.colStepX ++ bytesOfInt 4 v.colStepY ++ bytesOfInt 4 v.rowStepX ++ bytesOfInt 4 v.rowStepY

/-- Fields 9 to 13, the flat list with its count. -/
def Version.calibrationBytes (v : Version) : List Byte :=
  bytesOf 2 v.bias ++ bytesOf 2 v.gain ++ bytesOf 1 v.flat.length ++ v.flat.flatMap (bytesOf 2)
    ++ bytesOf 2 v.saturation ++ bytesOf 1 v.weight

/-- DEFECT COUNT and the placements. -/
def Version.defectBytes (v : Version) : List Byte :=
  bytesOf 1 v.defects.length ++ v.defects.flatMap fun p => bytesOf 2 p.row ++ bytesOf 2 p.col ++ bytesOf 1 p.stamp

/-- The codes of an entry's state (R23). -/
def EntryState.code : EntryState → Nat
  | .pending => 1
  | .live => 2
  | .retiring => 3

/-- The bytes an entry step folds (R23). -/
def Entry.foldBytes (e : Entry) : List Byte :=
  bytesOf 2 e.seg ++ bytesOf 1 e.state.code ++ bytesOf 1 (if e.suspect then 1 else 0)
    ++ match e.installed.getLast? with
       | none => bytesOf 1 0
       | some i => bytesOf 1 1 ++ i.version.geometryBytes ++ i.version.calibrationBytes ++ i.version.defectBytes

/-- The 256 bytes the stamp step folds (R23). -/
def stampBytes (stamps : Vector Stamp 32) : List Byte := stamps.toList.flatMap fun t => t.toList

/-! ### Stamps in use (R20) -/

/-- The version has a placement with the stamp. -/
def Version.usesStamp (v : Version) (code : Nat) : Bool := v.defects.any fun p => p.stamp == code

/-- A context resolves a version of some entry that uses the stamp (R20). -/
def State.stampInUse (s : State) (code : Nat) : Bool :=
  s.cat.entries.any fun e => s.exc.contexts.any fun x => (x.resolve e.2).any fun i => i.version.usesStamp code

end Sys2Proof.Machine
end

