-- ==== Sys2Proof/Machine/Catalogue.lean ====
section
/-! DEFINITION. The segment catalogue's requests (chapters 1 and 2), the retire batch and the signature
walk. -/

namespace Sys2Proof.Machine

/-! ### The staging record's requests (R7, R9, R10) -/

/-- PUT FIELD at the catalogue (R7). -/
def State.putField (f : Frame) (s : State) : State × Answer :=
  let code := f.nat 0 1
  if code < 1 ∨ 30 < code then (s, .invalid 36)
  else
    match s.cat.staging.put code f with
    | some g => ({ s with cat.staging := g }, .ok)
    | none => (s, .invalid code)

/-- PUT FIELD (R7). -/
def execPutField (f : Frame) (s : State) : Host.Outcome State Fault Refusal :=
  .next (s.request .ordinary f.fitsPutField f (State.putField f))

/-- CLEAR STAGING (R9). -/
def execClearStaging (f : Frame) (s : State) : Host.Outcome State Fault Refusal :=
  .next (s.request .ordinary (f.fits 0) f fun s => ({ s with cat.staging := Staging.empty }, .ok))

/-- The version of an entry that a selector names (R10). -/
def State.selected (s : State) (e : Entry) : Selector → Option Version
  | .newest => e.installed.getLast?.map fun i => i.version
  | .staged => match e.staged with
    | some (.version v) => some v
    | some .retirement | none => none
  | .resolved c => ((s.ctx c).resolve e).map fun i => i.version

/-- LOAD STAGING at the catalogue (R10). -/
def State.loadStaging (f : Frame) (s : State) : State × Answer :=
  if Config.segmentMax < f.nat 0 2 then (s, .invalid 32)
  else
    match selectorOf (f.nat 2 1) with
    | none => (s, .invalid 33)
    | some sel =>
      match s.cat.find (f.nat 0 2) with
      | none => (s, .refuse .unknownSegment)
      | some e =>
        match s.selected e.2 sel with
        | none => (s, .refuse .state)
        | some v => ({ s with cat.staging := Staging.ofVersion v }, .ok)

/-- LOAD STAGING (R10). -/
def execLoadStaging (f : Frame) (s : State) : Host.Outcome State Fault Refusal :=
  .next (s.request .ordinary (f.fits 3) f (State.loadStaging f))

/-! ### Requests that change entries (R12 to R16, R28, R38 to R40) -/

/-- A request that changes the entry of a segment: the segment id, then BUSY (R2, R28). -/
def State.changing (s : State) (seg : Nat) (act : State × Answer) : State × Answer :=
  if Config.segmentMax < seg then (s, .invalid 32)
  else if s.catalogueBusy then (s, .refuse .busy)
  else act

/-- The entry of a segment, or UNKNOWN_SEGMENT (R2). -/
def State.onEntry (s : State) (seg : Nat) (act : Entry → State × Answer) : State × Answer :=
  match s.cat.find seg with
  | none => (s, .refuse .unknownSegment)
  | some e => act e.2

/-- A staged version copied from the staging record, or the first failing field (R11 to R13). -/
def State.staging (s : State) (act : Version → State) : State × Answer :=
  match s.cat.staging.version with
  | .error code => (s, .invalid code)
  | .ok v => (act v, .ok)

/-- Change the entry of a segment. -/
def State.changeEntry (s : State) (seg : Nat) (f : Entry → Entry) : State :=
  { s with cat := s.cat.changeEntry seg f }

/-- A new PENDING entry (R12). -/
def Entry.pendingWith (seg : Nat) (v : Version) : Entry :=
  { seg := seg, state := .pending, installed := [], staged := some (.version v), suspect := false, broken := 0,
    marker := none, member := false }

/-- STAGE ADD at the catalogue (R12). -/
def State.stageAdd (f : Frame) (s : State) : State × Answer :=
  let seg := f.nat 0 2
  s.changing seg
    (match s.cat.find seg with
    | some _ => (s, .refuse .exists_)
    | none =>
      match s.cat.entries.lowest Config.entryCount with
      | none => (s, .refuse .full)
      | some i => s.staging fun v =>
        { s with cat := { s.cat.disturb [seg] with entries := s.cat.entries.write i (Entry.pendingWith seg v) } })

/-- STAGE ADD (R12). -/
def execStageAdd (f : Frame) (s : State) : Host.Outcome State Fault Refusal :=
  .next (s.request .ordinary (f.fits 2) f (State.stageAdd f))

/-- The entry may take a staged version (R13). -/
def Entry.mayStage (e : Entry) : Bool :=
  match e.state with
  | .pending => true
  | .live => !e.member && e.staged != some .retirement
  | .retiring => false

/-- STAGE CHANGE at the catalogue (R13). -/
def State.stageChange (f : Frame) (s : State) : State × Answer :=
  let seg := f.nat 0 2
  s.changing seg <| s.onEntry seg fun e =>
    if e.mayStage then s.staging fun v => s.changeEntry seg fun e => { e with staged := some (.version v) }
    else (s, .refuse .state)

/-- STAGE CHANGE (R13). -/
def execStageChange (f : Frame) (s : State) : Host.Outcome State Fault Refusal :=
  .next (s.request .ordinary (f.fits 2) f (State.stageChange f))

/-- The entry of a segment becomes VACANT (R1); a walk that has folded it is disturbed (R24). -/
def State.vacate (s : State) (seg : Nat) : State :=
  let cat : Cat := { s.cat.disturb [seg] with entries := s.cat.entries.filter fun e => e.2.seg != seg }
  { s with cat := cat }

/-- UNSTAGE at the catalogue (R14). -/
def State.unstage (f : Frame) (s : State) : State × Answer :=
  let seg := f.nat 0 2
  s.changing seg <| s.onEntry seg fun e =>
    match e.state with
    | .pending => (s.vacate seg, .ok)
    | .live => (s.changeEntry seg fun e => { e with staged := none }, .ok)
    | .retiring => (s, .refuse .state)

/-- UNSTAGE (R14). -/
def execUnstage (f : Frame) (s : State) : Host.Outcome State Fault Refusal :=
  .next (s.request .ordinary (f.fits 2) f (State.unstage f))

/-- RETIRE AT_BOUNDARY of a LIVE or RETIRING entry (R39). -/
def State.retireAtBoundary (s : State) (seg : Nat) (e : Entry) : State × Answer :=
  if e.state = .live ∧ e.member = false then
    (s.changeEntry seg fun e => { e with staged := some .retirement }, .ok)
  else (s, .refuse .state)

/-- An IMMEDIATE retirement opens a batch when none is open, with BATCH_WINDOW as it stands (R40, R41). -/
def Batch.joined (b : Batch) (window : Nat) : Batch :=
  match b with
  | .closed => .window window
  | .window ms => .window ms
  | .due => .due
  | .applying a => .applying a

/-- RETIRE IMMEDIATE of a LIVE or RETIRING entry (R40). -/
def State.retireImmediate (s : State) (seg : Nat) (e : Entry) : State × Answer :=
  if e.state = .live then
    if e.member then (s, .ok)
    else
      let s := s.changeEntry seg fun e => { e with member := true, staged := none }
      ({ s with cat.batch := s.cat.batch.joined s.params.batchWindow }, .ok)
  else (s, .refuse .state)

/-- RETIRE at the catalogue (R38). -/
def State.retire (f : Frame) (s : State) : State × Answer :=
  let seg := f.nat 0 2
  if Config.segmentMax < seg then (s, .invalid 32)
  else
    match retireModeOf (f.nat 2 1) with
    | none => (s, .invalid 37)
    | some mode =>
      s.changing seg <| s.onEntry seg fun e =>
        if e.state = .pending then (s.vacate seg, .ok)
        else
          match mode with
          | .atBoundary => s.retireAtBoundary seg e
          | .immediate => s.retireImmediate seg e

/-- RETIRE (R38). -/
def execRetire (f : Frame) (s : State) : Host.Outcome State Fault Refusal :=
  .next (s.request .ordinary (f.fits 3) f (State.retire f))

/-- CLEAR SUSPECT at the catalogue (R16). -/
def State.clearSuspect (f : Frame) (s : State) : State × Answer :=
  let seg := f.nat 0 2
  s.changing seg <| s.onEntry seg fun _ =>
    (s.changeEntry seg fun e => { e with suspect := false, broken := 0 }, .ok)

/-- CLEAR SUSPECT (R16). -/
def execClearSuspect (f : Frame) (s : State) : Host.Outcome State Fault Refusal :=
  .next (s.request .ordinary (f.fits 2) f (State.clearSuspect f))

/-! ### COMMIT (R33, R34) -/

/-- COMMIT at the catalogue (R33). -/
def State.commitRequest (f : Frame) (s : State) : State × Answer :=
  if s.cmd.long.isSome then (s, .refuse .busy)
  else if s.exc.ctxA.isOpen ∨ s.exc.ctxB.isOpen ∨ s.exc.opening.isSome then (s, .refuse .deferred)
  else if Config.countMax ≤ s.cat.epoch then (s, .refuse .epochLimit)
  else s.acceptLong .commit f.tag

/-- COMMIT (R33). -/
def execCommit (f : Frame) (s : State) : Host.Outcome State Fault Refusal :=
  .next (s.request .ordinary (f.fits 0) f (State.commitRequest f))

/-! ### READ ENTRY and the stamps (R18, R20, R21) -/

/-- An absent item: 0xFF in each of its bytes (R175). -/
def absentBytes (n : Nat) : List Byte := List.replicate n 0xFF

/-- An item of `n` bytes, or absent. -/
def optionBytes (n : Nat) (v : Option Nat) : List Byte :=
  match v with
  | some k => bytesOf n k
  | none => absentBytes n

/-- A flag in one byte (R175). -/
def flagByte (b : Bool) : List Byte := bytesOf 1 (if b then 1 else 0)

/-- The list position of the version a context resolves: 1 newest, 0 oldest (R18, R175). The last in the
list is the newest (R1), so an entry's only version is given as newest (log 18). -/
def Context.resolvedPosition (x : Context) (e : Entry) : Option Nat :=
  (x.resolve e).map fun i => if e.installed.getLast? = some i then 1 else 0

/-- The staged change in READ ENTRY (R175). -/
def stagedCode : Option Staged → Nat
  | none => 0
  | some (.version _) => 1
  | some .retirement => 2

/-- Section STATE of READ ENTRY (R18; widths: R175 and log 18). The epoch tags stand right after the 1-byte
number of installed versions, with no 2-byte list length of R175 beside it: the model's choice (log 18). -/
def State.entryStateBytes (s : State) (index : Nat) (e : Entry) : List Byte :=
  bytesOf 2 index ++ bytesOf 2 e.seg ++ bytesOf 1 e.state.code
    ++ bytesOf 1 e.installed.length ++ e.installed.flatMap (fun i => bytesOf 4 i.epoch)
    ++ bytesOf 1 (stagedCode e.staged) ++ flagByte e.suspect ++ bytesOf 1 e.broken
    ++ (match e.marker with
        | some m => bytesOf 1 m.port.val ++ bytesOf 1 m.buffer.val
        | none => absentBytes 2)
    ++ flagByte e.member
    ++ optionBytes 1 (s.exc.ctxA.resolvedPosition e) ++ optionBytes 1 (s.exc.ctxB.resolvedPosition e)

/-- A version's section of READ ENTRY (R18). -/
def Version.sectionBytes (v : Version) : Section → List Byte
  | .state => []
  | .geometry => v.geometryBytes
  | .calibration => v.calibrationBytes
  | .defects => v.defectBytes

/-- READ ENTRY of a section that needs a version (R18). -/
def State.readVersion (f : Frame) (s : State) (sec : Section) : State × Answer :=
  match selectorOf (f.nat 3 1) with
  | none => (s, .invalid 33)
  | some sel =>
    match s.cat.find (f.nat 0 2) with
    | none => (s, .refuse .unknownSegment)
    | some e =>
      match s.selected e.2 sel with
      | none => (s, .refuse .state)
      | some v => s.capture (v.sectionBytes sec)

/-- READ ENTRY at the catalogue (R18). -/
def State.readEntry (f : Frame) (s : State) : State × Answer :=
  if Config.segmentMax < f.nat 0 2 then (s, .invalid 32)
  else
    match sectionOf (f.nat 2 1) with
    | none => (s, .invalid 34)
    | some .state =>
      match s.cat.find (f.nat 0 2) with
      | none => (s, .refuse .unknownSegment)
      | some e => s.capture (s.entryStateBytes e.1 e.2)
    | some sec => s.readVersion f sec

/-- READ ENTRY (R18). -/
def execReadEntry (f : Frame) (s : State) : Host.Outcome State Fault Refusal :=
  .next (s.request .ordinary (f.fits 4) f (State.readEntry f))

/-- WRITE STAMP at the catalogue (R20). -/
def State.writeStamp (f : Frame) (s : State) : State × Answer :=
  match stampCodeOf (f.nat 0 1) with
  | none => (s, .invalid 35)
  | some k =>
    if s.catalogueBusy then (s, .refuse .busy)
    else if s.stampInUse k.val then (s, .refuse .inUse)
    else ({ s with cat.stamps := s.cat.stamps.set k (f.stamp 1) }, .ok)

/-- WRITE STAMP (R20). -/
def execWriteStamp (f : Frame) (s : State) : Host.Outcome State Fault Refusal :=
  .next (s.request .ordinary (f.fits 9) f (State.writeStamp f))

/-- READ STAMP at the catalogue (R21). That the stamp's 8 rows have no 2-byte list length before them (R175) is the
model's choice (log 22). -/
def State.readStamp (f : Frame) (s : State) : State × Answer :=
  match stampCodeOf (f.nat 0 1) with
  | none => (s, .invalid 35)
  | some k => s.capture (s.cat.stamps[k].toList ++ flagByte (s.stampInUse k.val))

/-- READ STAMP (R21). -/
def execReadStamp (f : Frame) (s : State) : Host.Outcome State Fault Refusal :=
  .next (s.request .ordinary (f.fits 1) f (State.readStamp f))

/-! ### The signature walk (R22 to R25) -/

/-- A walk begins (R22): status RUNNING, value discarded, mark cleared, position 0, CRC at its start. -/
def Signature.begin : Signature :=
  { status := .running, value := 0, position := 0, disturbed := false, crc := crc32Start }

/-- SIGN CATALOGUE at the catalogue (R22). -/
def State.signRequest (f : Frame) (s : State) : State × Answer :=
  if s.cmd.long.isSome then (s, .refuse .busy)
  else State.acceptLong { s with cat.sign := Signature.begin } .signCatalogue f.tag

/-- SIGN CATALOGUE (R22). -/
def execSignCatalogue (f : Frame) (s : State) : Host.Outcome State Fault Refusal :=
  .next (s.request .ordinary (f.fits 0) f (State.signRequest f))

/-- The non-vacant entry with the smallest segment id at or above a position (R22). -/
def Cat.nextFold (c : Cat) (position : Nat) : Option Entry :=
  c.entries.foldl (fun best e =>
    if e.2.seg < position then best
    else match best with
      | none => some e.2
      | some b => if e.2.seg < b.seg then some e.2 else some b) none

/-- SIGNATURE ENTRY STEP (R22, R23). -/
def execSignatureEntryStep (s : State) : Host.Outcome State Fault Refusal :=
  if s.cat.sign.status = .running then
    match s.cat.nextFold s.cat.sign.position with
    | some e => .next { s with cat.sign := { s.cat.sign with
        crc := crc32Bytes s.cat.sign.crc e.foldBytes, position := e.seg + 1 } }
    | none => .next s
  else .next s

/-- SIGNATURE STAMP STEP (R22, R25): the stamps are folded and the walk completes. -/
def execSignatureStampStep (s : State) : Host.Outcome State Fault Refusal :=
  if s.cat.sign.status = .running ∧ s.cat.nextFold s.cat.sign.position = none then
    let crc := crc32Bytes s.cat.sign.crc (stampBytes s.cat.stamps)
    let sign : Signature := { s.cat.sign with
      status := if s.cat.sign.disturbed then .disturbed else .signed
      value := crc32Value crc, position := 1024, crc := crc }
    .next (State.completeLong { s with cat.sign := sign }
      (if s.cat.sign.disturbed then .disturbed else .signed) (some (crc32Value crc)))
  else .next s

/-- The codes of the signature status (10.1). -/
def SignStatus.code : SignStatus → Nat
  | .none => 0
  | .running => 1
  | .signed => 2
  | .disturbed => 3

/-- READ SIGNATURE (R25): the value is 0 while NONE or RUNNING, the position 0 unless RUNNING. -/
def State.readSignature (s : State) : State × Answer :=
  let g := s.cat.sign
  s.capture (bytesOf 1 g.status.code
    ++ bytesOf 4 (match g.status with
      | .none | .running => 0
      | .signed | .disturbed => g.value.toNat)
    ++ bytesOf 2 (if g.status = .running then g.position else 0))

/-- READ SIGNATURE (R25). -/
def execReadSignature (f : Frame) (s : State) : Host.Outcome State Fault Refusal :=
  .next (s.request .ordinary (f.fits 0) f State.readSignature)

/-! ### The retire batch (R41 to R46) -/

/-- BATCH WINDOW EXPIRY (R41, R42): the application begins, or waits for an installation or a FLUSH. -/
def execBatchWindowExpiry (s : State) : Host.Outcome State Fault Refusal :=
  match s.cat.batch with
  | .window _ => .next (State.beginDueBatch { s with cat.batch := .due })
  | _ => .next s

/-- The entry of a segment is a batch member (R41). -/
def Cat.isMember (c : Cat) (seg : Nat) : Bool :=
  match c.find seg with
  | some e => e.2.member
  | none => false

/-- BATCH APPLICATION BEGIN (R43): the members' RECEIVING and READY strips are abandoned RETIRED. -/
def execBatchApplicationBegin (s : State) : Host.Outcome State Fault Refusal :=
  if s.cat.batch = .applying false then
    .next (State.abandonWhere { s with cat.batch := .applying true } (fun t => s.cat.isMember t.seg) .retired)
  else .next s

/-- The segments of the batch's members. -/
def Cat.members (c : Cat) : List Nat := (c.entries.filter fun e => e.2.member).map fun e => e.2.seg

/-- The progress records of some segments are marked withdrawn, in an open context (R45). -/
def Context.withdraw (x : Context) (segs : List Nat) : Context :=
  if x.isOpen then
    { x with progress := x.progress.map fun p => if p.seg ∈ segs then { p with withdrawn := true } else p }
  else x

/-- Some segments' contributors become WITHDRAWN, in an OPEN slot (R127). -/
def Slot.withdraw (t : Slot) (segs : List Nat) : Slot :=
  if t.state = .opened then
    { t with contributors := t.contributors.map fun k => if k.seg ∈ segs then { k with state := .withdrawn } else k }
  else t

/-- The third step of a batch application (R45): withdrawal from contexts, slots and catalogue, then the
completion checks in touch order, then the natural-end checks. -/
def State.withdrawMembers (s : State) (segs : List Nat) : State :=
  let exc : Exc := { s.exc with ctxA := s.exc.ctxA.withdraw segs, ctxB := s.exc.ctxB.withdraw segs }
  let ctb : Ctb := { s.ctb with slots := s.ctb.mapSlots fun t => t.withdraw segs }
  let cat := (s.cat.disturb segs).mapEntries fun e =>
    if e.seg ∈ segs then { e with state := .retiring, member := false } else e
  let s := { s with exc := exc, ctb := ctb, cat := cat }
  let s := s.checkSlots fun t => t.state == .opened && t.contributors.any fun k => k.seg ∈ segs
  (s.naturalEnd .A).naturalEnd .B

/-- The fourth step of a batch application (R46): each member becomes VACANT, the batch closes, and
WORK_DONE is raised. -/
def State.vacateMembers (s : State) (segs : List Nat) : State :=
  let cat : Cat := { s.cat.disturb segs with
    entries := s.cat.entries.filter fun e => !(decide (e.2.seg ∈ segs))
    batch := .closed }
  State.raise { s with cat := cat } .workDone

/-- A commit of a member is in progress (R44). -/
def State.committingMember (s : State) : Bool := s.ple.commit.any fun k => s.cat.isMember k.seg

/-- BATCH WITHDRAWAL (R44 to R46): once no commit of a member is in progress, the members are withdrawn and
made VACANT, the application completes, and the latch is served. -/
def execBatchWithdrawal (s : State) : Host.Outcome State Fault Refusal :=
  if s.cat.batch = .applying true ∧ s.committingMember = false then
    .next (((s.withdrawMembers s.cat.members).vacateMembers s.cat.members).serveLatch).takeHead
  else .next s

end Sys2Proof.Machine
end

