-- ==== Sys2Proof/Machine/Placement.lean ====
section
/-! DEFINITION. The placement engine (chapter 5): the commit arbiter, the reservation of a row, the placing
of a pixel, the end of a row and the end of a commit. -/

namespace Sys2Proof.Machine

/-! ### The commit arbiter (R92) -/

/-- The READY strip of a buffer. -/
def Buffer.ready? : Buffer → Option Strip
  | .ready t => some t
  | .idle | .receiving _ | .committing _ => none

/-- The buffer of a port the arbiter chooses: its READY buffer, or the older of two (R92). -/
def Port.chooseReady (p : Port) : Option (Fin 2 × Strip) :=
  p.oldestFirst.findSome? fun b => p.buffers[b].ready?.map fun t => (b, t)

/-- The ports in the order the arbiter looks at them (R92). -/
def arbiterOrder (last : Fin 4) : List (Fin 4) := [last + 1, last + 2, last + 3, last]

/-- What the arbiter chooses: port, buffer and strip (R92). -/
def State.arbiterChoice (s : State) : Option (Fin 4 × Fin 2 × Strip) :=
  (arbiterOrder s.ple.lastServed).findSome? fun p => (s.port p).chooseReady.map fun c => (p, c)

/-- The current commit set from a strip's record (R91, R92). -/
def Strip.commit (t : Strip) (p : Fin 4) (b : Fin 2) : Commit :=
  { port := p, buffer := b, ctx := t.ctx, exposure := t.exposure, seg := t.seg, first := t.first, count := t.count
    cols := t.cols, row := t.first, phase := .reserve, col := 0, touched := [], toAsk := [], missing := []
    victims := [], opening := none }

/-- The arbiter makes its choice, if the engine is IDLE and some buffer is READY (R92). -/
def State.arbitrate (s : State) : State :=
  if s.ple.commit.isSome then s
  else
    match s.arbiterChoice with
    | none => s
    | some (p, b, t) =>
      { s.changePort p (fun q => { q with buffers := q.buffers.set b (.committing t) }) with
        ple := { lastServed := p, commit := some (t.commit p b) } }

/-! ### Row reservation (R102, R103, R122) -/

/-- Pin a slot (R122). -/
def State.pin (s : State) (n : Nat) : State := s.changeSlot n fun t => { t with pinned := true }

/-- The end of RESERVE: the row goes to PLACE, or to WAIT with an attempt made on entry (R102, R123). -/
def State.reserved (s : State) : State :=
  match s.ple.commit with
  | none => s
  | some k =>
    if k.missing = [] then s.changeCommit fun m => { m with phase := .place, col := 0 }
    else (s.changeCommit fun m => { m with phase := .wait, victims := [] }).attempt

/-- The engine asks for touched cells in list order (R102, R122). A cell found is pinned; one that has no
slot is opened in the lowest FREE slot, and the asking goes on when that opening completes; one for which
no slot is FREE is left without. -/
def State.ask : List CellIndex → State → State
  | [], s => s.reserved
  | cell :: rest, s =>
    match s.ple.commit with
    | none => s
    | some k =>
      match s.ctb.index k.ctx cell with
      | some n => State.ask rest (s.pin n)
      | none =>
        match s.ctb.lowestFree with
        | some n => (s.openCell k.ctx cell n).changeCommit fun m => { m with toAsk := rest }
        | none => State.ask rest (s.changeCommit fun m => { m with missing := m.missing ++ [cell] })

/-- The touched cells of the current row of a commit (R102). -/
def State.touchedBy (s : State) (k : Commit) : List CellIndex :=
  match s.resolved k.ctx k.seg with
  | some v => v.touchedCells k.row k.cols
  | none => []

/-- ROW RESERVE (R102): the row's touched cells are listed and asked for. -/
def execRowReserve (s : State) : Host.Outcome State Fault Refusal :=
  match s.ple.commit with
  | none => .next s
  | some k =>
    if k.phase = .reserve ∧ k.opening = none then
      let cells := s.touchedBy k
      .next (State.ask cells (s.changeCommit fun m => { m with touched := cells, toAsk := [], missing := [] })).takeHead
    else .next s

/-- The slot's memory is cleared and its opening completes (R112, R114); the row's asking, or its waiting
request, goes on. -/
def State.openingDone (s : State) (k : Commit) (n : Nat) : State :=
  let s := { s with ctb.memory := Memory.clearSlot s.ctb.memory n }.changeCommit fun m => { m with opening := none }
  if k.phase = .reserve then State.ask k.toAsk s else s.attempt

/-- CELL OPENING COMPLETE (R114). -/
def execCellOpeningComplete (s : State) : Host.Outcome State Fault Refusal :=
  match s.ple.commit with
  | none => .next s
  | some k =>
    match k.opening with
    | none => .next s
    | some n => .next (s.openingDone k n).takeHead

/-! ### The pixel (R94 to R101, R106, R107) -/

/-- One row of the strip being committed. -/
def State.commitRow (s : State) (k : Commit) : List Pixel :=
  match ((s.port k.port).buffers[k.buffer]).strip? with
  | some t => t.rows.getD (k.row - k.first) []
  | none => []

/-- The raw value of the pixel to be placed next (R94). -/
def State.rawPixel (s : State) (k : Commit) : Nat := ((s.commitRow k).getD k.col 0).toNat

/-- A DEFECT pixel: counted, and counted in its cell if it is on the grid (R94, R95). -/
def State.placeDefect (s : State) (k : Commit) (slot : Option Nat) : State :=
  let s := s.count k.ctx fun m => { m with defect := countUp m.defect }
  match slot with
  | some n => s.changeSlot n fun t => { t with defect := countUp t.defect }
  | none => s

/-- The first hit a report of a pixel carries (R106). -/
def Commit.hitAt (k : Commit) (xy : Nat × Nat) : FirstHit :=
  { exposure := k.exposure, cell := cellOf xy, seg := some k.seg }

/-- A SATURATED pixel: counted, and on the grid counted in its cell and reported (R94, R96, R106). -/
def State.placeSaturated (s : State) (k : Commit) (xy : Option (Nat × Nat)) (slot : Option Nat) : State :=
  let s := s.count k.ctx fun m => { m with saturated := countUp m.saturated }
  match xy, slot with
  | some xy, some n =>
    (s.changeSlot n fun t => { t with saturated := countUp t.saturated }).report
      (fun g => g.matchesSaturated xy.1 xy.2) k.ctx n (k.hitAt xy)
  | _, _ => s

/-- An OFF_GRID pixel (R99). -/
def State.placeOffGrid (s : State) (k : Commit) : State :=
  s.count k.ctx fun m => { m with offGrid := countUp m.offGrid }

/-- A CROWDED pixel (R100). -/
def State.placeCrowded (s : State) (k : Commit) (n : Nat) : State :=
  (s.count k.ctx fun m => { m with crowded := countUp m.crowded }).changeSlot n fun t =>
    { t with crowded := countUp t.crowded }

/-- The contributor record of a segment gains one accepted pixel (R101). -/
def Slot.acceptPixel (t : Slot) (seg : Nat) : Slot :=
  { t with
    pixels := t.pixels + 1
    contributors := t.contributors.map fun k => if k.seg = seg then { k with pixels := k.pixels + 1 } else k }

/-- An ACCEPTED pixel: accumulated, counted and reported (R101, R106). -/
def State.placeAccepted (s : State) (k : Commit) (v : Version) (value : Int) (xy : Nat × Nat) (n : Nat) : State :=
  let a := skyAddress n (positionOf xy)
  let r := Memory.read s.ctb.memory a
  let r' : SkyRecord := { r with sum := r.sum + v.weight * value, weight := r.weight + v.weight }
  let s := { s with ctb.memory := Memory.write s.ctb.memory a r' }
  let s := s.count k.ctx fun m => { m with pixels := countUp m.pixels }
  (s.changeSlot n fun t => t.acceptPixel k.seg).report
    (fun g => g.matchesAccepted xy.1 xy.2 k.seg value) k.ctx n (k.hitAt xy)

/-- The accumulation step: the pair is read with what its code found (R107), and the pixel is CROWDED if
the sky pixel is full, else ACCEPTED (R100, R101). -/
def State.accumulate (s : State) (k : Commit) (v : Version) (value : Int) (xy : Nat × Nat) (n : Nat)
    (found : Option MemoryError) : State :=
  let s := match found with
    | some e => s.memoryError n (positionOf xy) e
    | none => s
  if Config.weightMax < (Memory.read s.ctb.memory (skyAddress n (positionOf xy))).weight + v.weight then
    s.placeCrowded k n
  else s.placeAccepted k v value xy n

/-- The segment is a contributor of a slot (R100). -/
def Ctb.contributes (t : Ctb) (n seg : Nat) : Bool := t.slotIs n fun e => e.contributors.any fun k => k.seg == seg

/-- A calibrated pixel on the grid: CROWDED without a place among the contributors, else accumulated. -/
def State.placeOnGrid (s : State) (k : Commit) (v : Version) (xy : Nat × Nat) (n : Nat) (found : Option MemoryError) :
    State :=
  if s.ctb.contributes n k.seg then s.accumulate k v (v.calibrate k.col (s.rawPixel k)) xy n found
  else s.placeCrowded k n

/-- One pixel of the row is given its outcome (R94). -/
def State.placePixel (s : State) (k : Commit) (v : Version) (found : Option MemoryError) : State :=
  let xy := v.skyPixel k.row k.col
  let slot := xy.bind fun p => s.ctb.index k.ctx (cellOf p)
  if v.defective s.cat.stamps k.row k.col then s.placeDefect k slot
  else if v.saturation ≤ s.rawPixel k then s.placeSaturated k xy slot
  else
    match xy, slot with
    | some p, some n => s.placeOnGrid k v p n found
    | some _, none => s
    | none, _ => s.placeOffGrid k

/-- The engine goes to the next column (R94). After the row's last pixel the row waits for ROW ADVANCE, in
PLACE with no column left (log 11). -/
def Commit.nextColumn (k : Commit) : Commit := { k with col := k.col + 1 }

/-- PIXEL PLACE (R94). `found` is what the read of the accumulators finds, if they are read (R107). -/
def execPixelPlace (found : Option MemoryError) (s : State) : Host.Outcome State Fault Refusal :=
  match s.ple.commit with
  | none => .next s
  | some k =>
    if k.phase = .place ∧ k.col < k.cols then
      match s.resolved k.ctx k.seg with
      | some v => .next ((s.placePixel k v found).changeCommit Commit.nextColumn)
      | none => .next (s.changeCommit Commit.nextColumn)
    else .next s

/-! ### After each row (R104, R105) -/

/-- The progress record of a segment advances past a row (R104). -/
def Context.advance (x : Context) (seg row : Nat) : Context :=
  { x with progress := x.progress.map fun p => if p.seg = seg then { p with next := row + 1 } else p }

/-- The progress record advances, and a finished segment is counted (R104). -/
def State.advanceProgress (s : State) (k : Commit) : State :=
  let s := s.changeCtx k.ctx fun x => x.advance k.seg k.row
  match s.resolved k.ctx k.seg with
  | some v => if k.row + 1 = v.rows then s.count k.ctx fun m => { m with finished := countUp m.finished } else s
  | none => s

/-- The contributor record is of the commit's segment and its range ends at the row (R105). -/
def Commit.ends (k : Commit) (c : Contributor) : Bool := c.seg == k.seg && c.last == k.row

/-- The slot is one whose contributor's range ends at the commit's row (R105 step 1). -/
def Slot.endsAt (t : Slot) (k : Commit) : Bool :=
  t.state == .opened && t.ctx == k.ctx && t.contributors.any k.ends

/-- An EXPECTED contributor whose range ends at the row becomes DONE (R105 step 1, R118). -/
def Slot.finishRow (t : Slot) (k : Commit) : Slot :=
  if t.endsAt k then
    { t with contributors := t.contributors.map fun c =>
        if k.ends c ∧ c.state = .expected then { c with state := .done } else c }
  else t

/-- Move a slot to the back of the touch order, if it has a place in it (R121). -/
def touchBack (touch : List Nat) (n : Nat) : List Nat :=
  if n ∈ touch then removeTouch touch n ++ [n] else touch

/-- Step 3 of R105: the touched cells whose slots are OPEN move to the back of the touch order, in list
order. -/
def State.touchRow (s : State) (k : Commit) : State :=
  { s with ctb.touch := (k.touched.filterMap (s.ctb.index k.ctx)).foldl touchBack s.ctb.touch }

/-- Step 4 of R105: the row's pins are released; pins belong to one row (R122). -/
def State.unpin (s : State) : State :=
  { s with ctb.slots := s.ctb.mapSlots fun t => { t with pinned := false } }

/-- The four steps of R105. -/
def State.advanceCells (s : State) (k : Commit) : State :=
  let s := { s with ctb.slots := s.ctb.mapSlots fun t => t.finishRow k }
  ((s.checkSlots fun t => t.endsAt k || (t.state == .opened && t.pinned)).touchRow k).unpin

/-! ### The end of a commit (R87, R108) -/

/-- The steps of R87 at the port: buffer and marker freed, ACCEPTED queued, the accepted-strip report. -/
def State.acceptStrip (s : State) (k : Commit) : State :=
  let s := (s.freeBuffer k.port k.buffer).giveVerdict k.port k.exposure k.seg k.first .accepted
  { s with cat := s.cat.acceptedReport k.seg }

/-- The commit completes (R108): the port's steps, strips accepted, the engine IDLE, the natural-end check,
and the arbiter's next choice (R92). -/
def State.completeCommit (s : State) (k : Commit) : State :=
  let s := (s.acceptStrip k).count k.ctx fun m => { m with accepted := countUp m.accepted }
  ((({ s with ple.commit := none } : State).naturalEnd k.ctx)).arbitrate

/-- The next row begins with its RESERVE phase (R93). -/
def Commit.nextRow (k : Commit) : Commit :=
  { k with row := k.row + 1, phase := .reserve, col := 0, touched := [], toAsk := [], missing := [], victims := [] }

/-- ROW ADVANCE (R104, R105, R108): the row, its pixels all placed, enters ADVANCE; then progress, cells, and
the next row or the end of the commit. -/
def execRowAdvance (s : State) : Host.Outcome State Fault Refusal :=
  match s.ple.commit with
  | none => .next s
  | some k =>
    if k.phase = .place ∧ k.cols ≤ k.col then
      let s := s.changeCommit fun m => { m with phase := .advance }
      let s := (s.advanceProgress k).advanceCells k
      if k.row + 1 < k.first + k.count then .next (s.changeCommit fun m => m.nextRow).takeHead
      else .next (s.completeCommit k).takeHead
    else .next s

end Sys2Proof.Machine
end

