-- ==== Sys2Proof/Machine/StripPort.lean ====
section
/-! DEFINITION. The strip ports (chapter 4): link state, the header checks, rows, strip ends and the back
channel. -/

namespace Sys2Proof.Machine

/-! ### Links (R71, R72) -/

/-- A DOWN port becomes UP when it has word sync and is in LINK_ENABLE (R71). -/
def State.tryUp (s : State) (p : Fin 4) : State :=
  if (s.port p).up = false ∧ (s.port p).sync ∧ s.params.linkEnable.getLsbD p.val then s.changePort p Port.comeUp else s

/-- WORD SYNC FOUND (R71). -/
def execWordSyncFound (p : Fin 4) (s : State) : Host.Outcome State Fault Refusal :=
  .next ((s.changePort p fun q => { q with sync := true }).tryUp p)

/-- WORD SYNC LOST (R71, R72): an UP port goes DOWN. -/
def execWordSyncLost (p : Fin 4) (s : State) : Host.Outcome State Fault Refusal :=
  let t := s.changePort p fun q => { q with sync := false }
  if (s.port p).up then .next (t.goDown p) else .next t

/-! ### Header checks (R77 to R79) -/

/-- Check 2: the context of the header's exposure number (R78). -/
def Exc.checkExposure (x : Exc) (exposure : Nat) : Except VerdictCode Ctx :=
  match x.carrying exposure with
  | none => .error .unknownExposure
  | some c =>
    match (x.ctx c).state with
    | .exposing => .error .notReady
    | .gathering => if (x.ctx c).endCause.isNone then .ok c else .error .late
    | .closing | .held => .error .late
    | .free => .error .unknownExposure

/-- Check 8 (R77, R79): the rows against the progress record and the resolved version. -/
def checkRows (h : Header) (next : Nat) (v : Version) : Except VerdictCode Version :=
  if h.first < next then .error .duplicate
  else if next < h.first ∨ h.count < 1 ∨ 16 < h.count ∨ v.rows < h.first + h.count then .error .gap
  else .ok v

/-- Checks 5 to 8, in the context found at check 2 (R77, R79). -/
def State.checkProgress (s : State) (c : Ctx) (h : Header) (e : Entry) : Except VerdictCode Version :=
  match (s.ctx c).record h.seg with
  | none => .error .notExpected
  | some r =>
    if r.withdrawn then .error .retired
    else if e.marker.isSome then .error .segmentBusy
    else
      match s.resolved c h.seg with
      | none => .error .gap
      | some v => checkRows h r.next v

/-- Checks 3 to 8 (R77, R79). -/
def State.checkSegment (s : State) (c : Ctx) (h : Header) : Except VerdictCode Version :=
  if Config.segmentMax < h.seg then .error .unknownSegment
  else
    match s.cat.find h.seg with
    | none => .error .unknownSegment
    | some e => if e.2.member ∨ e.2.state = .retiring then .error .retired else s.checkProgress c h e.2

/-- The checks of R77 in order: the first that fails gives the verdict; a header that passes them all has
its context and the version it resolves. -/
def State.checkHeader (s : State) (p : Fin 4) (h : Header) : Except VerdictCode (Ctx × Version) :=
  if s.exc.flushing then .error .flushed
  else if (s.port p).hold then .error .held
  else
    match s.exc.checkExposure h.exposure with
    | .error code => .error code
    | .ok c => (s.checkSegment c h).map fun v => (c, v)

/-! ### Headers (R76, R80, R81) -/

/-- A refused header (R81): its verdict, DISCARDING, and for UNKNOWN_EXPOSURE the counter of R89. -/
def State.refuseHeader (s : State) (p : Fin 4) (h : Header) (code : VerdictCode) : State :=
  (s.giveVerdict p h.exposure h.seg h.first code).changePort p fun q =>
    { q with
      receive := .discarding
      refusedUnknown := if code = .unknownExposure then countUp q.refusedUnknown else q.refusedUnknown }

/-- A buffer is IDLE. -/
def Buffer.isIdle : Buffer → Bool
  | .idle => true
  | .receiving _ | .ready _ | .committing _ => false

/-- The buffer an accepted header takes: the one whose strip R76 ended, else the lower-numbered IDLE one
(R80). -/
def Port.bufferFor (q : Port) (ended : Option (Fin 2 × Strip)) : Fin 2 :=
  match ended with
  | some e => e.1
  | none => if q.buffers[0].isIdle then 0 else 1

/-- The strip an accepted header begins (R80): no rows, the CRC over the two header words. -/
def Header.strip (h : Header) (c : Ctx) (v : Version) (words : List Word) : Strip :=
  { exposure := h.exposure, seg := h.seg, first := h.first, count := h.count, ctx := c, cols := v.cols, rows := []
    crc := crc32Words crc32Start words }

/-- A port takes a strip into a buffer (R74, R80). -/
def Port.take (q : Port) (b : Fin 2) (t : Strip) : Port :=
  { q with
    buffers := q.buffers.set b (.receiving t)
    older := if q.buffers[otherBuffer b].isIdle then none else some (otherBuffer b)
    receive := .receiving }

/-- An accepted header (R80): buffer, age order, receive state and in-flight marker. -/
def State.acceptHeader (s : State) (p : Fin 4) (b : Fin 2) (t : Strip) : State :=
  { s.changePort p (fun q => q.take b t) with
    cat := s.cat.changeEntry t.seg fun e => { e with marker := some { port := p, buffer := b } } }

/-- A well-formed header at an UP port (R76, R77): counted, the strip being received is ended BROKEN, and
the header is checked. -/
def State.takeHeader (s : State) (p : Fin 4) (h : Header) (words : List Word) : State :=
  let ended := (s.port p).receiving?
  let s := s.changePort p fun q => { q with headersSeen := countUp q.headersSeen }
  let s := match ended with
    | some e => s.breakStrip p e.1 e.2 .broken
    | none => s
  match s.checkHeader p h with
  | .error code => s.refuseHeader p h code
  | .ok (c, v) => s.acceptHeader p ((s.port p).bufferFor ended) (h.strip c v words)

/-- A ROW that breaks the strip, or a malformed message: in RECEIVING the strip is broken and the port
discards; otherwise the message is discarded (R82, R178). -/
def State.breakReceiving (s : State) (p : Fin 4) : State :=
  match (s.port p).receiving? with
  | some e => (s.breakStrip p e.1 e.2 .broken).changePort p fun q => { q with receive := .discarding }
  | none => s

/-- STRIP HEADER (R76 to R81). A DOWN port takes no word (R71). -/
def execStripHeader (p : Fin 4) (words : List Word) (s : State) : Host.Outcome State Fault Refusal :=
  if (s.port p).up = false then .next s
  else
    match headerOf words with
    | some h => .next (s.takeHeader p h words)
    | none => .next (s.breakReceiving p)

/-! ### Rows and strip end (R82, R83) -/

/-- A ROW fits the strip: its pixel count is the strip's column count and the strip lacks rows (R82). -/
def Strip.rowFits (t : Strip) (pixels : List Pixel) : Bool :=
  pixels.length == t.cols && t.rows.length < t.count

/-- A good row is appended, and the running CRC is extended over every word of the message (R82, R177). -/
def Strip.addRow (t : Strip) (pixels : List Pixel) (words : List Word) : Strip :=
  { t with rows := t.rows ++ [pixels], crc := crc32Words t.crc words }

/-- A ROW at an UP port (R73, R82). -/
def State.takeRow (s : State) (p : Fin 4) (words : List Word) : State :=
  match (s.port p).receiving? with
  | none => s
  | some e =>
    match rowPixels words with
    | none => s.breakReceiving p
    | some pixels =>
      if e.2.rowFits pixels then
        s.changePort p fun q => { q with buffers := q.buffers.set e.1 (.receiving (e.2.addRow pixels words)) }
      else s.breakReceiving p

/-- ROW (R82). -/
def execRow (p : Fin 4) (words : List Word) (s : State) : Host.Outcome State Fault Refusal :=
  if (s.port p).up then .next (s.takeRow p words) else .next s

/-- The end of the strip being received (R83): BROKEN, CRC, or READY. -/
def State.endStrip (s : State) (p : Fin 4) (b : Fin 2) (t : Strip) (crc : Word) : State :=
  if t.rows.length < t.count then s.breakStrip p b t .broken
  else if crc ≠ crc32Value t.crc then s.breakStrip p b t .crc
  else s.changePort p fun q => { q with buffers := q.buffers.set b (.ready t) }

/-- A STRIP END at an UP port (R73, R83): the arbiter chooses if a buffer became READY (R92). -/
def State.takeEnd (s : State) (p : Fin 4) (crc : Word) : State :=
  let s := match (s.port p).receiving? with
    | some e => s.endStrip p e.1 e.2 crc
    | none => s
  (s.changePort p fun q => { q with receive := .awaiting }).arbitrate

/-- STRIP END (R83). -/
def execStripEnd (p : Fin 4) (words : List Word) (s : State) : Host.Outcome State Fault Refusal :=
  if (s.port p).up = false then .next s
  else
    match stripEndCrc words with
    | some crc => .next (s.takeEnd p crc)
    | none => .next (s.breakReceiving p)

/-! ### The back channel (R86) -/

/-- The two words of a VERDICT (R178). -/
def Verdict.words (v : Verdict) : List Word :=
  [wordOfHalves v.seg v.first, BitVec.ofNat 32 (v.code.toNat * 16777216 + v.next % 65536)]

/-- VERDICT SENT (R86): the sending of the oldest verdict ends, and it leaves the queue. -/
def execVerdictSent (p : Fin 4) (s : State) : Host.Outcome State Fault Refusal :=
  match (s.port p).up, (s.port p).verdicts with
  | true, v :: rest => .next (s.changePort p fun q => { q with verdicts := rest, backChannel := v.words })
  | _, _ => .next s

/-- The hold symbol an UP port's back channel repeats between verdicts (R75, R178). -/
inductive HoldSymbol where
  | hold
  | noHold
  deriving DecidableEq, Repr

/-- The symbol between verdicts; a DOWN port's back channel sends nothing. -/
def Port.holdSymbol (q : Port) : Option HoldSymbol :=
  if q.up then some (if q.hold then .hold else .noHold) else none

end Sys2Proof.Machine
end

