-- ==== Sys2Proof/Machine/CommandPort.lean ====
section
/-! DEFINITION. The command port (chapter 9): its own requests, frames that are no request, start-up and
reset; and the READ requests of the other blocks with the layout of their answers (R175). -/

namespace Sys2Proof.Machine

/-! ### Items of an answer (R175) -/

/-- An item of a signed width. -/
def intBytes (n : Nat) (v : Int) : List Byte := bytesOfInt n v

/-- A list: its length in 2 bytes, then its items. -/
def listBytes {α : Type} (item : α → List Byte) (l : List α) : List Byte := bytesOf 2 l.length ++ l.flatMap item

/-- A count of a summary, slot, contributor, port, the cell table or the command port: 4 bytes. -/
def countBytes (n : Nat) : List Byte := bytesOf 4 n

/-- The codes of a context's state. -/
def ContextState.code : ContextState → Nat
  | .free => 0
  | .exposing => 1
  | .gathering => 2
  | .closing => 3
  | .held => 4

/-- The codes of the part state. -/
def PartState.code : PartState → Nat
  | .starting => 0
  | .ready => 1

/-- The codes of a long request; 0 is none. -/
def LongKind.code : LongKind → Nat
  | .commit => 1
  | .signCatalogue => 2
  | .flush => 3

/-- The codes of a long result. -/
def LongOutcome.code : LongOutcome → Nat
  | .ok => 1
  | .signed => 2
  | .disturbed => 3

/-! ### NOP and STATUS (R168) -/

/-- NOP (R168). -/
def execNop (f : Frame) (s : State) : Host.Outcome State Fault Refusal :=
  .next (s.request .always (f.fits 0) f fun s => (s, .ok))

/-- The last long result: kind, tag, result and value. Absent, it is the kind byte 0, and the other six
bytes are a free value (log 16); a FLUSH's value is a free value (log 17). `n` numbers the free value. -/
def lastResultBytes (r : Option LongResult) (n : Nat) : List Byte :=
  match r with
  | none => bytesOf 1 0 ++ bytesOf 6 (Config.absentLongResult n).toNat
  | some r =>
    bytesOf 1 r.kind.code ++ [r.tag] ++ bytesOf 1 r.result.code
      ++ bytesOf 4 (r.value.getD (Config.flushResultValue n)).toNat

/-- A context in STATUS: its state and its number, 0 for a FREE context (R168). -/
def Context.statusBytes (x : Context) : List Byte :=
  bytesOf 1 x.state.code ++ bytesOf 2 (if x.state = .free then 0 else x.number)

/-- The number of entries in a state. -/
def Cat.countIn (c : Cat) (st : EntryState) : Nat := c.entries.countP fun e => e.2.state == st

/-- The catalogue in STATUS: entries VACANT, PENDING, LIVE, RETIRING, and the epoch counter. -/
def Cat.statusBytes (c : Cat) : List Byte :=
  bytesOf 2 (Config.entryCount - c.entries.length) ++ bytesOf 2 (c.countIn .pending) ++ bytesOf 2 (c.countIn .live)
    ++ bytesOf 2 (c.countIn .retiring) ++ bytesOf 4 c.epoch

/-- The batch is open from its opening until its application completes (R41). -/
def Batch.isOpen : Batch → Bool
  | .closed => false
  | .window _ | .due | .applying _ => true

/-- The 37 bytes of STATUS (10.1, R168). -/
def State.statusBytes (s : State) : List Byte :=
  bytesOf 1 s.part.code
    ++ bytesOf 1 (match s.cmd.long with
        | some l => l.kind.code
        | none => 0)
    ++ lastResultBytes s.cmd.last s.cmd.free
    ++ bytesOf 2 s.att.flags.toNat ++ bytesOf 2 s.att.enables.toNat
    ++ s.exc.ctxA.statusBytes ++ s.exc.ctxB.statusBytes
    ++ s.cat.statusBytes
    ++ bytesOf 2 (Config.slotCount - s.ctb.slots.length) ++ bytesOf 2 s.ctb.queue.length
    ++ flagByte s.cat.batch.isOpen
    ++ bytesOf 1 s.cat.sign.status.code

/-- STATUS at the command port (R168); the number of the next free value advances. -/
def State.readStatus (s : State) : State × Answer :=
  ({ s with cmd.free := s.cmd.free + 1 }, { status := .ok, payload := s.statusBytes })

/-- STATUS (R168). -/
def execStatus (f : Frame) (s : State) : Host.Outcome State Fault Refusal :=
  .next (s.request .always (f.fits 0) f State.readStatus)

/-! ### READ SUMMARY (R63, R65) -/

/-- The end cause of a context as an item. -/
def endCauseBytes (c : Option EndCause) : List Byte := optionBytes 1 (c.map fun k => endCauseCode (some k))

/-- Whether an EXPOSING or GATHERING context's end has begun; absent in the other states (log 21). -/
def Context.endBegunBytes (x : Context) : List Byte :=
  match x.state with
  | .exposing | .gathering => flagByte x.endCause.isSome
  | .closing | .held | .free => absentBytes 1

/-- The answer of READ SUMMARY: the fields of R63 in order, then the state and whether the end has begun
(log 21). -/
def State.summaryBytes (s : State) (c : Ctx) : List Byte :=
  let x := s.ctx c
  let m := x.summary
  bytesOf 2 x.number ++ bytesOf 4 x.epoch ++ endCauseBytes x.endCause ++ countBytes x.progress.length
    ++ countBytes m.finished ++ listBytes (bytesOf 2) (s.lists c).missing ++ listBytes (bytesOf 2) (s.lists c).withdrawn
    ++ countBytes m.accepted ++ m.refusals.toList.flatMap countBytes
    ++ countBytes m.pixels ++ countBytes m.defect ++ countBytes m.saturated ++ countBytes m.offGrid
    ++ countBytes m.crowded ++ countBytes m.cellsComplete ++ countBytes m.cellsPartial ++ countBytes m.cellsForced
    ++ countBytes m.damaged ++ countBytes m.watchHits ++ bytesOf 1 x.state.code ++ x.endBegunBytes

/-- READ SUMMARY at exposure control (R65). -/
def State.readSummary (f : Frame) (s : State) : State × Answer :=
  match ctxOf (f.nat 0 1) with
  | none => (s, .invalid 38)
  | some c => if (s.ctx c).state = .free then (s, .refuse .state) else s.capture (s.summaryBytes c)

/-- READ SUMMARY (R65). -/
def execReadSummary (f : Frame) (s : State) : Host.Outcome State Fault Refusal :=
  .next (s.request .ordinary (f.fits 1) f (State.readSummary f))

/-! ### READ CELL (R134) -/

/-- The codes of a slot's state; 0 is FREE. -/
def SlotState.code : SlotState → Nat
  | .opened => 1
  | .queued => 2
  | .emitting => 3

/-- A contributor record in READ CELL: id, row range, state, suspect-at-emission, pixels (log 19). -/
def Contributor.readBytes (k : Contributor) : List Byte :=
  bytesOf 2 k.seg ++ bytesOf 2 k.first ++ bytesOf 2 k.last ++ bytesOf 1 k.state.code
    ++ optionBytes 1 (k.suspect.map flagNat) ++ countBytes k.pixels

/-- The place of an item in a list, 1 for the first. -/
def positionIn {α : Type} [DecidableEq α] (l : List α) (a : α) : Nat := l.idxOf a + 1

/-- The position of an OPEN slot in the touch order, or of a QUEUED one in the emission queue. R134 gives an
EMITTING slot none, and the model leaves the item out, where R175 could make it 0xFF bytes: the model's
choice (log 34). -/
def Ctb.positionBytes (t : Ctb) (n : Nat) (st : SlotState) : List Byte :=
  match st with
  | .opened => bytesOf 2 (positionIn t.touch n)
  | .queued => bytesOf 2 (positionIn t.queue (.slot n))
  | .emitting => []

/-- The answer of READ CELL for a slot that is not FREE (R134). -/
def Ctb.slotBytes (t : Ctb) (n : Nat) (e : Slot) : List Byte :=
  bytesOf 2 n ++ bytesOf 1 e.state.code ++ bytesOf 1 (ctxCode e.ctx) ++ bytesOf 2 e.cell.cx ++ bytesOf 2 e.cell.cy
    ++ bytesOf 2 e.part ++ optionBytes 1 (e.completeness.map fun k => completenessCode (some k))
    ++ flagByte e.crowdedFlag ++ flagByte e.damagedFlag ++ bytesOf 1 e.watchSet.toNat ++ flagByte e.pinned
    ++ countBytes e.pixels ++ countBytes e.defect ++ countBytes e.saturated ++ countBytes e.crowded
    ++ countBytes e.damaged ++ listBytes Contributor.readBytes e.contributors ++ t.positionBytes n e.state

/-- The answer for a slot by number; a FREE slot is its number and state alone (R134). -/
def Ctb.readSlotBytes (t : Ctb) (n : Nat) : List Byte :=
  match t.slots.read n with
  | some e => t.slotBytes n e
  | none => bytesOf 2 n ++ bytesOf 1 0

/-- The answer by context and cell: the OPEN slot, or "no open slot" with the last part (R134, R175). -/
def Ctb.readCellBytes (t : Ctb) (c : Ctx) (cell : CellIndex) : List Byte :=
  match t.index c cell with
  | some n => t.readSlotBytes n
  | none => absentBytes 2 ++ bytesOf 2 (t.lastPart c cell)

/-- READ CELL by context and cell index. -/
def State.readCellByIndex (f : Frame) (s : State) : State × Answer :=
  match ctxOf (f.nat 1 1) with
  | none => (s, .invalid 38)
  | some c =>
    if 1023 < f.nat 2 2 ∨ 1023 < f.nat 4 2 then (s, .invalid 39)
    else s.capture (s.ctb.readCellBytes c { cx := f.nat 2 2, cy := f.nat 4 2 })

/-- READ CELL by slot number. -/
def State.readCellBySlot (f : Frame) (s : State) : State × Answer :=
  if Config.slotCount ≤ f.nat 1 2 then (s, .invalid 40) else s.capture (s.ctb.readSlotBytes (f.nat 1 2))

/-- READ CELL at the cell table (R134). -/
def State.readCell (f : Frame) (s : State) : State × Answer :=
  match f.nat 0 1 with
  | 1 => s.readCellByIndex f
  | 2 => s.readCellBySlot f
  | _ => (s, .invalid 41)

/-- READ CELL (R134). -/
def execReadCell (f : Frame) (s : State) : Host.Outcome State Fault Refusal :=
  .next (s.request .ordinary f.fitsReadCell f (State.readCell f))

/-! ### READ WATCH (R154) -/

/-- The codes of a watch kind. -/
def WatchKind.code : WatchKind → Nat
  | .covered => 1
  | .peakAbove => 2
  | .saturated => 3
  | .segment => 4
  | .cellDone => 5
  | .cellPartial => 6

/-- The condition of a watch: CLEARED, ARMED or HIT (R148). -/
def Watch.condition (w : Watch) : Nat := if w.setting.isNone then 0 else if w.first.isNone then 1 else 2

/-- Enabled flag, kind, region and threshold. -/
def Watch.settingBytes (w : Watch) : List Byte :=
  match w.setting with
  | some g =>
    flagByte true ++ bytesOf 1 g.kind.code ++ bytesOf 2 g.x0 ++ bytesOf 2 g.x1 ++ bytesOf 2 g.y0 ++ bytesOf 2 g.y1
      ++ intBytes 4 g.threshold
  | none => flagByte false ++ absentBytes 1 ++ absentBytes 8 ++ intBytes 4 0

/-- Hit flag, hit count and first hit. -/
def Watch.hitBytes (w : Watch) : List Byte :=
  flagByte w.first.isSome ++ bytesOf 2 w.count
    ++ match w.first with
       | some h => bytesOf 2 h.exposure ++ bytesOf 2 h.cell.cx ++ bytesOf 2 h.cell.cy ++ optionBytes 2 h.seg
       | none => absentBytes 8

/-- One watch in the answer of READ WATCH (R154). -/
def State.watchBytes (s : State) (w : Fin 8) : List Byte :=
  bytesOf 1 w.val ++ bytesOf 1 s.watches[w].condition ++ s.watches[w].settingBytes ++ s.watches[w].hitBytes

/-- READ WATCH at the watch unit (R154): a watch number, or 0xFF for all. -/
def State.readWatch (f : Frame) (s : State) : State × Answer :=
  if f.nat 0 1 = 255 then s.capture (([0, 1, 2, 3, 4, 5, 6, 7] : List (Fin 8)).flatMap s.watchBytes)
  else
    match watchNumberOf (f.nat 0 1) with
    | none => (s, .invalid 42)
    | some w => s.capture (s.watchBytes w)

/-- READ WATCH (R154). -/
def execReadWatch (f : Frame) (s : State) : Host.Outcome State Fault Refusal :=
  .next (s.request .ordinary (f.fits 1) f (State.readWatch f))

/-! ### Parameters (R170 to R172) -/

/-- A parameter's value by its code (R170, 10.1). -/
def Params.value (g : Params) : Nat → Nat
  | 1 => g.gatherLimit
  | 2 => g.batchWindow
  | 3 => g.brokenLimit
  | 4 => flagNat g.spill
  | 5 => flagNat g.summaryHold
  | 6 => flagNat g.shutterUse
  | 7 => match g.shutterSense with
    | .rising => 0
    | .falling => 1
  | 8 => g.nextExposure
  | 9 => g.linkEnable.toNat
  | _ => g.instanceNo

/-- A value of 0 or 1. -/
def boolValue (v : Nat) : Option Bool := if v = 0 then some false else if v = 1 then some true else none

/-- A parameter written by its code 1..10, if the value is in its range (R170). -/
def Params.write (g : Params) (code v : Nat) : Option Params :=
  match code with
  | 1 => (inRange 100 60000 v).map fun v => { g with gatherLimit := v }
  | 2 => (inRange 1 1000 v).map fun v => { g with batchWindow := v }
  | 3 => (inRange 0 15 v).map fun v => { g with brokenLimit := v }
  | 4 => (boolValue v).map fun b => { g with spill := b }
  | 5 => (boolValue v).map fun b => { g with summaryHold := b }
  | 6 => (boolValue v).map fun b => { g with shutterUse := b }
  | 7 => (boolValue v).map fun b => { g with shutterSense := if b then .falling else .rising }
  | 8 => (inRange 0 65535 v).map fun v => { g with nextExposure := v }
  | 9 => (inRange 0 15 v).map fun v => { g with linkEnable := BitVec.ofNat 4 v }
  | _ => (inRange 0 15 v).map fun v => { g with instanceNo := v }

/-- A port follows LINK_ENABLE: UP and left out, it goes DOWN; DOWN and put in, it comes UP if its
receiver has word sync (R71, R171). -/
def State.followLink (s : State) (p : Fin 4) : State :=
  if (s.port p).up ∧ s.params.linkEnable.getLsbD p.val = false then s.goDown p else s.tryUp p

/-- The further effects of a write, at once (R171). -/
def State.afterWrite (s : State) (code : Nat) : State :=
  match code with
  | 4 => s.attempt.takeHead
  | 6 => if s.params.shutterUse then s else { s with exc.latch := { opening := false, closing := false } }
  | 9 => ([0, 1, 2, 3] : List (Fin 4)).foldl State.followLink s
  | _ => s

/-- SET PARAMETER at the command port (R171). -/
def State.setParameter (f : Frame) (s : State) : State × Answer :=
  let code := f.nat 0 1
  if code < 1 ∨ 10 < code then (s, .invalid 48)
  else
    match s.params.write code (f.nat 1 4) with
    | none => (s, .invalid 49)
    | some g => (State.afterWrite { s with params := g } code, .ok)

/-- SET PARAMETER (R171). -/
def execSetParameter (f : Frame) (s : State) : Host.Outcome State Fault Refusal :=
  .next (s.request .ordinary (f.fits 5) f (State.setParameter f))

/-- One parameter in the answer of READ PARAMETER: the code and the value (R172). -/
def Params.bytes (g : Params) (code : Nat) : List Byte := bytesOf 1 code ++ bytesOf 4 (g.value code)

/-- READ PARAMETER at the command port (R172): a code, or 0xFF for all. -/
def State.readParameter (f : Frame) (s : State) : State × Answer :=
  let code := f.nat 0 1
  if code = 255 then s.capture ([1, 2, 3, 4, 5, 6, 7, 8, 9, 10].flatMap s.params.bytes)
  else if code < 1 ∨ 10 < code then (s, .invalid 48)
  else s.capture (s.params.bytes code)

/-- READ PARAMETER (R172). -/
def execReadParameter (f : Frame) (s : State) : Host.Outcome State Fault Refusal :=
  .next (s.request .ordinary (f.fits 1) f (State.readParameter f))

/-! ### READ COUNTERS (R169) -/

/-- The codes of a receive state. -/
def ReceiveState.code : ReceiveState → Nat
  | .awaiting => 0
  | .receiving => 1
  | .discarding => 2

/-- The codes of a buffer state. -/
def Buffer.code : Buffer → Nat
  | .idle => 0
  | .receiving _ => 1
  | .ready _ => 2
  | .committing _ => 3

/-- A strip port in READ COUNTERS. -/
def Port.counterBytes (q : Port) : List Byte :=
  flagByte q.up ++ bytesOf 1 q.receive.code ++ bytesOf 1 q.buffers[0].code ++ bytesOf 1 q.buffers[1].code
    ++ flagByte q.hold ++ bytesOf 1 q.verdicts.length
    ++ countBytes q.headersSeen ++ countBytes q.refusedUnknown ++ countBytes q.abandonedDown

/-- The codes of a row phase. -/
def RowPhase.code : RowPhase → Nat
  | .reserve => 0
  | .wait => 1
  | .place => 2
  | .advance => 3

/-- The placement engine in READ COUNTERS. -/
def Ple.counterBytes (e : Ple) : List Byte :=
  flagByte e.commit.isSome ++ bytesOf 1 e.lastServed.val
    ++ match e.commit with
       | some k => bytesOf 1 k.port.val ++ bytesOf 1 k.buffer.val ++ bytesOf 2 k.seg ++ bytesOf 2 k.row
           ++ bytesOf 1 k.phase.code
       | none => absentBytes 7

/-- The codes of the cell output port's state. -/
def PortState.code : PortState → Nat
  | .reset => 0
  | .idle => 1
  | .preparing _ => 2
  | .sendingCell _ _ _ _ _ => 3
  | .sendingTrailer _ _ => 3
  | .aborting _ => 4

/-- The current item and its unit position: item kind, slot number or context, unit (log 20). -/
def PortState.itemBytes : PortState → List Byte
  | .preparing n => bytesOf 1 0 ++ bytesOf 2 n ++ absentBytes 1
  | .sendingCell n _ _ position _ => bytesOf 1 0 ++ bytesOf 2 n ++ bytesOf 1 position
  | .sendingTrailer t _ => bytesOf 1 1 ++ bytesOf 1 (ctxCode t.ctx) ++ bytesOf 1 65
  | .reset | .idle | .aborting _ => absentBytes 4

/-- The answer of READ COUNTERS (R169). That the items of the four ports follow one another with no 2-byte list
length before them (R175) is the model's choice (log 20). -/
def State.counterBytes (s : State) : List Byte :=
  s.ports.toList.flatMap Port.counterBytes ++ s.ple.counterBytes ++ countBytes s.ctb.corrected
    ++ bytesOf 1 s.cop.state.code ++ flagByte s.cop.pause ++ s.cop.state.itemBytes ++ countBytes s.cmd.frameErrors

/-- READ COUNTERS (R169). -/
def execReadCounters (f : Frame) (s : State) : Host.Outcome State Fault Refusal :=
  .next (s.request .ordinary (f.fits 0) f fun s => s.capture s.counterBytes)

/-! ### READ MORE (R167) -/

/-- READ MORE at the command port (R167). -/
def State.readMore (s : State) : State × Answer :=
  match s.cmd.cursor with
  | none => (s, .refuse .state)
  | some c =>
    if c < s.cmd.store.length then
      let chunk := (s.cmd.store.drop c).take Config.payloadMax
      ({ s with cmd.cursor := some (c + chunk.length) }, { status := .ok, payload := chunk })
    else ({ s with cmd.cursor := none }, .refuse .state)

/-- READ MORE (R167). -/
def execReadMore (f : Frame) (s : State) : Host.Outcome State Fault Refusal :=
  .next (s.request .more (f.fits 0) f State.readMore)

/-! ### Frames that are no request (R162, R164) -/

/-- FRAME ERROR (R162): the frame is discarded, answered FRAME_ERROR with tag 0, and counted. -/
def execFrameError (bytes : List Byte) (s : State) : Host.Outcome State Fault Refusal :=
  let t := s.clockOut bytes.length
  .next ({ t with cmd.frameErrors := countUp s.cmd.frameErrors }.place 0 (.refuse .frameError))

/-- UNKNOWN REQUEST (R164): a frame of good form whose kind names no request; its tag is echoed, and it is
not taken. The kind plays no part. -/
def execUnknownRequest (_kind : Byte) (f : Frame) (s : State) : Host.Outcome State Fault Refusal :=
  .next ((s.clockOut f.length).place f.tag (.refuse .unknownRequest))

/-! ### Start-up and reset (R173, R174) -/

/-- RESET PART at the command port (R174): the full reset, then OK with the flags and the part state as they
stand after it. -/
def State.resetPart (s : State) : State × Answer :=
  let t := s.fullReset
  (t, { status := .ok, payload := flagBytes t.att.flags ++ bytesOf 1 t.part.code })

/-- RESET PART (R174). -/
def execResetPart (f : Frame) (s : State) : Host.Outcome State Fault Refusal :=
  .next (s.request .ordinary (f.fits 0) f State.resetPart)

/-- FULL RESET by power-on or the reset pin (R174). -/
def execFullReset (s : State) : Host.Outcome State Fault Refusal := .next s.fullReset

/-- STARTUP CLEARING END (R112, R147, R173): cell memory is clear, the part is READY, and the cell output
port leaves the reset pattern. -/
def execStartupClearingEnd (s : State) : Host.Outcome State Fault Refusal :=
  if s.part = .starting then
    .next (State.takeHead { s with part := .ready, ctb.memory := [], cop.state := .idle })
  else .next s

end Sys2Proof.Machine
end

