-- ==== Sys2Proof/Machine/Timers.lean ====
section
/-! DEFINITION. The 1 ms tick (00_scope.md 2.3): what time does to the gather timers (R56) and to the batch
window (R41). It is what a step does on an empty queue (log 2). -/

namespace Sys2Proof.Machine

/-- A timer counts down; one that has expired stays at 0 until its expiry is taken. -/
def tickTimer : Option Nat → Option Nat
  | none => none
  | some n => some (n - 1)

/-- A timer expires at this tick. -/
def expiring (t : Option Nat) : Bool := t == some 1

/-- The gather timer of a context counts down (R56). -/
def Context.tick (x : Context) : Context := { x with timer := tickTimer x.timer }

/-- The time left of the batch window (R41). -/
def Batch.timer : Batch → Option Nat
  | .window ms => some ms
  | .closed | .due | .applying _ => none

/-- The batch window counts down (R41). -/
def Batch.tick : Batch → Batch
  | .window ms => .window (ms - 1)
  | .closed => .closed
  | .due => .due
  | .applying a => .applying a

/-- The expiries of this tick, as the commands that take them. The manual orders no two expiries of one tick;
context A, context B, the batch window is the model's choice (log 2). -/
def State.expiries (s : State) : List Instr :=
  (if expiring s.exc.ctxA.timer then [.gatherTimerExpiry .A] else [])
    ++ (if expiring s.exc.ctxB.timer then [.gatherTimerExpiry .B] else [])
    ++ (if expiring s.cat.batch.timer then [.batchWindowExpiry] else [])

/-- One tick: the timers count down, and the expiries wait in the queue. -/
def State.tick (s : State) : State :=
  { s with
    exc := { s.exc with ctxA := s.exc.ctxA.tick, ctxB := s.exc.ctxB.tick }
    cat := { s.cat with batch := s.cat.batch.tick }
    pending := s.pending ++ s.expiries }

end Sys2Proof.Machine
end

