-- ==== Sys2Proof/Machine/Dispatch.lean ====
section
/-! DEFINITION. One arm per command of spec/opcode_table.json: the meaning each has. -/

namespace Sys2Proof.Machine

/-- The effect of one command on everything but the queue. -/
def exec (i : Instr) (s : State) : Host.Outcome State Fault Refusal :=
  match i with
  | .nop f => Sys2Proof.Machine.execNop f s
  | .status f => Sys2Proof.Machine.execStatus f s
  | .putField f => Sys2Proof.Machine.execPutField f s
  | .clearStaging f => Sys2Proof.Machine.execClearStaging f s
  | .loadStaging f => Sys2Proof.Machine.execLoadStaging f s
  | .stageAdd f => Sys2Proof.Machine.execStageAdd f s
  | .stageChange f => Sys2Proof.Machine.execStageChange f s
  | .unstage f => Sys2Proof.Machine.execUnstage f s
  | .retire f => Sys2Proof.Machine.execRetire f s
  | .clearSuspect f => Sys2Proof.Machine.execClearSuspect f s
  | .commit f => Sys2Proof.Machine.execCommit f s
  | .readEntry f => Sys2Proof.Machine.execReadEntry f s
  | .writeStamp f => Sys2Proof.Machine.execWriteStamp f s
  | .readStamp f => Sys2Proof.Machine.execReadStamp f s
  | .signCatalogue f => Sys2Proof.Machine.execSignCatalogue f s
  | .readSignature f => Sys2Proof.Machine.execReadSignature f s
  | .openExposure f => Sys2Proof.Machine.execOpenExposure f s
  | .closeShutter f => Sys2Proof.Machine.execCloseShutter f s
  | .endExposure f => Sys2Proof.Machine.execEndExposure f s
  | .releaseExposure f => Sys2Proof.Machine.execReleaseExposure f s
  | .readSummary f => Sys2Proof.Machine.execReadSummary f s
  | .flush f => Sys2Proof.Machine.execFlush f s
  | .readCell f => Sys2Proof.Machine.execReadCell f s
  | .setWatch f => Sys2Proof.Machine.execSetWatch f s
  | .clearWatch f => Sys2Proof.Machine.execClearWatch f s
  | .readWatch f => Sys2Proof.Machine.execReadWatch f s
  | .setEnable f => Sys2Proof.Machine.execSetEnable f s
  | .acknowledge f => Sys2Proof.Machine.execAcknowledge f s
  | .setParameter f => Sys2Proof.Machine.execSetParameter f s
  | .readParameter f => Sys2Proof.Machine.execReadParameter f s
  | .readCounters f => Sys2Proof.Machine.execReadCounters f s
  | .resetPart f => Sys2Proof.Machine.execResetPart f s
  | .readMore f => Sys2Proof.Machine.execReadMore f s
  | .frameError bytes => Sys2Proof.Machine.execFrameError bytes s
  | .unknownRequest kind f => Sys2Proof.Machine.execUnknownRequest kind f s
  | .openingEdge => Sys2Proof.Machine.execOpeningEdge s
  | .closingEdge => Sys2Proof.Machine.execClosingEdge s
  | .pauseLineRise => Sys2Proof.Machine.execPauseLineRise s
  | .pauseLineFall => Sys2Proof.Machine.execPauseLineFall s
  | .fullReset => Sys2Proof.Machine.execFullReset s
  | .wordSyncFound p => Sys2Proof.Machine.execWordSyncFound p s
  | .wordSyncLost p => Sys2Proof.Machine.execWordSyncLost p s
  | .stripHeader p words => Sys2Proof.Machine.execStripHeader p words s
  | .row p words => Sys2Proof.Machine.execRow p words s
  | .stripEnd p words => Sys2Proof.Machine.execStripEnd p words s
  | .verdictSent p => Sys2Proof.Machine.execVerdictSent p s
  | .batchWindowExpiry => Sys2Proof.Machine.execBatchWindowExpiry s
  | .batchApplicationBegin => Sys2Proof.Machine.execBatchApplicationBegin s
  | .batchWithdrawal => Sys2Proof.Machine.execBatchWithdrawal s
  | .gatherTimerExpiry c => Sys2Proof.Machine.execGatherTimerExpiry c s
  | .forcedClose c => Sys2Proof.Machine.execForcedClose c s
  | .openingComplete => Sys2Proof.Machine.execOpeningComplete s
  | .commitBoundaryComplete => Sys2Proof.Machine.execCommitBoundaryComplete s
  | .signatureEntryStep => Sys2Proof.Machine.execSignatureEntryStep s
  | .signatureStampStep => Sys2Proof.Machine.execSignatureStampStep s
  | .flushFirstStep => Sys2Proof.Machine.execFlushFirstStep s
  | .flushComplete => Sys2Proof.Machine.execFlushComplete s
  | .rowReserve => Sys2Proof.Machine.execRowReserve s
  | .cellOpeningComplete => Sys2Proof.Machine.execCellOpeningComplete s
  | .pixelPlace found => Sys2Proof.Machine.execPixelPlace found s
  | .rowAdvance => Sys2Proof.Machine.execRowAdvance s
  | .preparationEnd found => Sys2Proof.Machine.execPreparationEnd found s
  | .unitSent => Sys2Proof.Machine.execUnitSent s
  | .trailerSent => Sys2Proof.Machine.execTrailerSent s
  | .abortMarkerSent => Sys2Proof.Machine.execAbortMarkerSent s
  | .startupClearingEnd => Sys2Proof.Machine.execStartupClearingEnd s

end Sys2Proof.Machine
end

