-- ==== Sys2Proof/Decode.lean ====
section
/-! DEFINITION. The frames of the command port: which request a frame is (R161, R162, R164 check 1, the
kinds of 10.1), and the frame a request is sent in. The table's rows give no bits, so
`decodeTableWord` spells none of them; `decodeFrame` reads the bytes the manual lays out. -/

namespace Sys2Proof

open Sys2Proof.Machine

/-- The request a kind value names (the table of 10.1); every other value names none. -/
def requestOf (kind : Byte) (f : Frame) : Option Instr :=
  match kind.toNat with
  | 0x01 => some (.nop f)
  | 0x02 => some (.status f)
  | 0x10 => some (.putField f)
  | 0x11 => some (.clearStaging f)
  | 0x12 => some (.loadStaging f)
  | 0x13 => some (.stageAdd f)
  | 0x14 => some (.stageChange f)
  | 0x15 => some (.unstage f)
  | 0x16 => some (.retire f)
  | 0x17 => some (.clearSuspect f)
  | 0x18 => some (.commit f)
  | 0x19 => some (.readEntry f)
  | 0x1A => some (.writeStamp f)
  | 0x1B => some (.readStamp f)
  | 0x1C => some (.signCatalogue f)
  | 0x1D => some (.readSignature f)
  | 0x20 => some (.openExposure f)
  | 0x21 => some (.closeShutter f)
  | 0x22 => some (.endExposure f)
  | 0x23 => some (.releaseExposure f)
  | 0x24 => some (.readSummary f)
  | 0x25 => some (.flush f)
  | 0x30 => some (.readCell f)
  | 0x40 => some (.setWatch f)
  | 0x41 => some (.clearWatch f)
  | 0x42 => some (.readWatch f)
  | 0x43 => some (.setEnable f)
  | 0x44 => some (.acknowledge f)
  | 0x50 => some (.setParameter f)
  | 0x51 => some (.readParameter f)
  | 0x52 => some (.readCounters f)
  | 0x5F => some (.resetPart f)
  | 0x60 => some (.readMore f)
  | _ => none

/-- A frame is the whole bytes clocked while chip select is low: groups of eight bits from its fall,
most significant first; a last group of fewer is no byte (R161). -/
def bytesOfBits : List Bool → List Byte
  | a :: b :: c :: d :: e :: f :: g :: h :: rest =>
    BitVec.ofNat 8 ([a, b, c, d, e, f, g, h].foldl (fun n x => 2 * n + x.toNat) 0) :: bytesOfBits rest
  | _ => []

/-- The payload length a frame's bytes declare. -/
def declaredLength (bs : List Byte) : Nat := (bs.getD 2 0).toNat

/-- The checks of R162 on a frame's bytes: `true` for a frame error. -/
def isFrameError (bs : List Byte) : Bool :=
  bs.length < 3 || Config.payloadMax < declaredLength bs || bs.length < 4 + declaredLength bs
    || bs.getD (3 + declaredLength bs) 0 != crc8 (bs.take (3 + declaredLength bs))

/-- The tag, payload and trailing bytes of a frame whose form is good (R161). -/
def frameOf (bs : List Byte) : Frame :=
  { tag := bs.getD 1 0
    payload := (bs.drop 3).take (declaredLength bs)
    extra := bs.length - (4 + declaredLength bs) }

/-- The command a frame of the command port is: a frame error (R162), an unknown request (R164, check 1)
or the request its kind names. -/
def decodeFrame (bs : List Byte) : Instr :=
  if isFrameError bs then .frameError bs
  else (requestOf (bs.getD 0 0) (frameOf bs)).getD (.unknownRequest (bs.getD 0 0) (frameOf bs))

/-- The kind byte and the frame of a command that is a good frame; `none` for every other command. -/
def kindAndFrame : Instr → Option (Byte × Frame)
  | .nop f => some (0x01, f)
  | .status f => some (0x02, f)
  | .putField f => some (0x10, f)
  | .clearStaging f => some (0x11, f)
  | .loadStaging f => some (0x12, f)
  | .stageAdd f => some (0x13, f)
  | .stageChange f => some (0x14, f)
  | .unstage f => some (0x15, f)
  | .retire f => some (0x16, f)
  | .clearSuspect f => some (0x17, f)
  | .commit f => some (0x18, f)
  | .readEntry f => some (0x19, f)
  | .writeStamp f => some (0x1A, f)
  | .readStamp f => some (0x1B, f)
  | .signCatalogue f => some (0x1C, f)
  | .readSignature f => some (0x1D, f)
  | .openExposure f => some (0x20, f)
  | .closeShutter f => some (0x21, f)
  | .endExposure f => some (0x22, f)
  | .releaseExposure f => some (0x23, f)
  | .readSummary f => some (0x24, f)
  | .flush f => some (0x25, f)
  | .readCell f => some (0x30, f)
  | .setWatch f => some (0x40, f)
  | .clearWatch f => some (0x41, f)
  | .readWatch f => some (0x42, f)
  | .setEnable f => some (0x43, f)
  | .acknowledge f => some (0x44, f)
  | .setParameter f => some (0x50, f)
  | .readParameter f => some (0x51, f)
  | .readCounters f => some (0x52, f)
  | .resetPart f => some (0x5F, f)
  | .readMore f => some (0x60, f)
  | .unknownRequest k f => some (k, f)
  | .frameError _ | .openingEdge | .closingEdge | .pauseLineRise | .pauseLineFall | .fullReset
  | .wordSyncFound _ | .wordSyncLost _ | .stripHeader _ _ | .row _ _ | .stripEnd _ _ | .verdictSent _
  | .batchWindowExpiry | .batchApplicationBegin | .batchWithdrawal | .gatherTimerExpiry _ | .forcedClose _
  | .openingComplete | .commitBoundaryComplete | .signatureEntryStep | .signatureStampStep
  | .flushFirstStep | .flushComplete | .rowReserve | .cellOpeningComplete | .pixelPlace _ | .rowAdvance
  | .preparationEnd _ | .unitSent | .trailerSent | .abortMarkerSent | .startupClearingEnd => none

/-- The bytes a frame is sent in (R161): kind, tag, length, payload, CRC-8, and the bytes clocked after
it, which are ignored and written as 0 here. -/
def encodeFrame (kind : Byte) (f : Frame) : List Byte :=
  let body := kind :: f.tag :: BitVec.ofNat 8 f.payload.length :: f.payload
  body ++ crc8 body :: List.replicate f.extra 0

/-- The bytes of a command that is a frame; `none` for a command that is not one. -/
def encode : Instr → Option (List Byte)
  | .frameError bs => some bs
  | i => (kindAndFrame i).map fun kf => encodeFrame kf.1 kf.2

/-- No row of spec/opcode_table.json gives bits, so no table word spells a command. -/
def decodeTableWord (_nbits _w : Nat) : Option Instr := none

end Sys2Proof
end

