-- ==== Sys2Proof/WellFormed.lean ====
section
/-! DEFINITION. Which commands a sender can send at all. The meanings are total and ask for none of
this; statements about encodings do. -/

namespace Sys2Proof

/-- A frame's payload has at most 56 bytes (R161, R162). -/
def Frame.wellFormed (f : Frame) : Bool := f.payload.length ≤ Config.payloadMax

/-- The positions of memory errors found in one preparation: on the cell, and each read once in payload
order (R139). -/
def errorsWellFormed : List (Nat × MemoryError) → Bool
  | [] => true
  | [e] => e.1 < Config.cellPixels
  | e :: e' :: rest => e.1 < e'.1 && errorsWellFormed (e' :: rest)

/-- The commands that can be sent: a good frame's payload fits, a frame error is one (R162), an unknown
request's kind names none (R164), and errors are found at distinct positions of the cell. -/
def Instr.wellFormed (i : Instr) : Bool :=
  match i with
  | .frameError bs => isFrameError bs
  | .unknownRequest k f => (requestOf k f).isNone && f.wellFormed
  | .preparationEnd found => errorsWellFormed found
  | i =>
    match kindAndFrame i with
    | some kf => kf.2.wellFormed
    | none => true

end Sys2Proof
end

