-- ==== Sys2Proof/Certificates/Slice0/Obligations.lean ====
section
/-! DEFINITION. The statements for the provers. Where a statement says `exec c s = .next { s with … }`,
every field that is not named is as it was: that is the frame. Log entries are those of notes/assumptions. -/

namespace Sys2Proof.Machine

/-! ### What the statements are written with -/

/-- The part after a frame was answered: the reply slot clocked out, the cursor as given, the reply placed. -/
def State.answeredWith (s : State) (f : Frame) (cursor : Option Nat) (st : Status) (payload : List Byte) : State :=
  { s with cmd := { s.cmd with
      dataOut := clockedOut s.cmd.replySlot f.length
      cursor := cursor
      replySlot := some { status := st, tag := f.tag, payload := payload } } }

/-- The part after a taken request, other than NOP, STATUS and READ MORE, was answered: no cursor is left. -/
def State.answered (s : State) (f : Frame) (st : Status) (payload : List Byte) : State :=
  s.answeredWith f none st payload

/-- The part after a READ request was answered OK with an answer of these items. -/
def State.captured (s : State) (f : Frame) (items : List Byte) : State :=
  let answer := bytesOf 2 (items.length + 2) ++ items
  { s.answeredWith f (some (min 56 answer.length)) .ok (answer.take 56) with
    cmd.store := answer }

/-- The payload length the table of 10.1 fixes for a kind; PUT FIELD and READ CELL have none there. -/
def fixedLength (kind : Nat) : Option Nat :=
  if kind ∈ [0x01, 0x02, 0x11, 0x18, 0x1C, 0x1D, 0x20, 0x21, 0x25, 0x52, 0x5F, 0x60] then some 0
  else if kind ∈ [0x1B, 0x22, 0x23, 0x24, 0x41, 0x42, 0x51] then some 1
  else if kind ∈ [0x13, 0x14, 0x15, 0x17, 0x43] then some 2
  else if kind ∈ [0x12, 0x16, 0x44] then some 3
  else if kind = 0x19 then some 4
  else if kind = 0x50 then some 5
  else if kind = 0x1A then some 9
  else if kind = 0x40 then some 14
  else none

/-- The parameter values in code order, as READ PARAMETER gives them. -/
def Params.values (g : Params) : List Nat :=
  [g.gatherLimit, g.batchWindow, g.brokenLimit, g.spill.toNat, g.summaryHold.toNat, g.shutterUse.toNat,
   if g.shutterSense = .falling then 1 else 0, g.nextExposure, g.linkEnable.toNat, g.instanceNo]

/-- The disturbed mark after a change of a segment's entry (R24). -/
def Signature.after (g : Signature) (seg : Nat) : Signature :=
  if g.status = .running ∧ seg < g.position then { g with disturbed := true } else g

/-- The staging record with every field of a version present, and no placement above its count. -/
def Staging.holds (g : Staging) (v : Version) : Prop :=
  g.rows = some v.rows ∧ g.cols = some v.cols ∧ g.originX = some v.originX ∧ g.originY = some v.originY ∧
  g.colStepX = some v.colStepX ∧ g.colStepY = some v.colStepY ∧ g.rowStepX = some v.rowStepX ∧
  g.rowStepY = some v.rowStepY ∧ g.bias = some v.bias ∧ g.gain = some v.gain ∧ g.flat = some v.flat ∧
  g.saturation = some v.saturation ∧ g.weight = some v.weight ∧ g.defectCount = some v.defects.length ∧
  ∀ i, g.defects.read i = v.defects[i]?

/-- What holds of an entry that is not VACANT (R1, R26, R30, R41): a PENDING one has a staged version alone; the
others have one or two installed versions, tagged in rising order up to the epoch counter; a batch member is
LIVE with no staged change. -/
def Entry.consistent (e : Entry) (epoch : Nat) : Prop :=
  e.seg ≤ 1023 ∧
  (e.state = .pending → e.installed = [] ∧ ∃ v, e.staged = some (.version v)) ∧
  (e.state ≠ .pending → e.installed ≠ []) ∧
  (e.state = .retiring → e.staged = none) ∧
  (e.member = true → e.state = .live ∧ e.staged = none) ∧
  e.installed.length ≤ 2 ∧
  (e.installed.map fun k => k.epoch).Pairwise (· < ·) ∧
  ∀ k ∈ e.installed, k.epoch ≤ epoch

/-- The invariant of the catalogue: entries in canonical form at indices 0 to 255, segment ids distinct, each
entry consistent, and no member while the batch is closed. -/
def State.catalogueConsistent (s : State) : Prop :=
  s.cat.entries.wf = true ∧ (∀ e ∈ s.cat.entries, e.1 < 256) ∧ (s.cat.entries.map fun e => e.2.seg).Nodup ∧
  (∀ e ∈ s.cat.entries, e.2.consistent s.cat.epoch) ∧
  (s.cat.batch = .closed → ∀ e ∈ s.cat.entries, e.2.member = false)

/-- How many trailers of a context are queued or being sent. -/
def State.trailersOf (s : State) (c : Ctx) : Nat :=
  s.ctb.queue.count (.trailer c) + match s.cop.state with
    | .sendingTrailer r _ => if r.ctx = c then 1 else 0
    | _ => 0

/-- What holds of a context (R48, R56, R58, R63): a FREE one is as the table of R48 has it, an EXPOSING one has no end
cause, a CLOSING or HELD one has one, only a gathering whose end has not begun has a running timer, and the expected
set and the fixed lists are ascending. -/
def Context.consistent (x : Context) : Prop :=
  (x.state = .free → x = Context.free) ∧
  (x.state = .exposing → x.endCause = none) ∧
  (x.state = .closing ∨ x.state = .held → x.endCause ≠ none) ∧
  (x.timer ≠ none → x.state = .gathering ∧ x.endCause = none) ∧
  (x.progress.map fun r => r.seg).Pairwise (· ≤ ·) ∧
  ∀ l, x.summary.fixed = some l → l.missing.Pairwise (· ≤ ·) ∧ l.withdrawn.Pairwise (· ≤ ·)

/-- The invariant of exposure control (R28, R48, R49, R52, R67, R130, R165): contexts consistent, one trailer for
a CLOSING context and none for another; no two contexts carry one number or are both EXPOSING; an opening has a
FREE context and a number of its own; a COMMIT runs with no context open; the FLUSH conditions and the walk
belong to the running long request. -/
def State.exposureConsistent (s : State) : Prop :=
  (∀ c, (s.ctx c).consistent ∧ s.trailersOf c = if (s.ctx c).state = .closing then 1 else 0) ∧
  (s.exc.ctxA.state = .exposing → s.exc.ctxB.state ≠ .exposing) ∧
  (s.exc.ctxA.state ≠ .free → s.exc.ctxB.state ≠ .free → s.exc.ctxA.number ≠ s.exc.ctxB.number) ∧
  (∀ o, s.exc.opening = some o → (s.ctx o.ctx).state = .free ∧ (s.ctx (otherCtx o.ctx)).state ≠ .exposing ∧
    ((s.ctx (otherCtx o.ctx)).state ≠ .free → (s.ctx (otherCtx o.ctx)).number ≠ o.number)) ∧
  (s.running .commit = true → s.exc.ctxA.isOpen = false ∧ s.exc.ctxB.isOpen = false ∧ s.exc.opening = none) ∧
  (s.exc.flushing = true → s.running .flush = true ∧ s.exc.opening = none) ∧
  (s.cat.sign.status = .running → s.running .signCatalogue = true)

/-- The slot of the cell output port's current item. -/
def PortState.slot? : PortState → Option Nat
  | .preparing n => some n
  | .sendingCell n _ _ _ _ => some n
  | .reset | .idle | .sendingTrailer _ _ | .aborting _ => none

/-- The invariant of the cell table (R111, R121, R129, R137): slots in canonical form at numbers 0 to 2047; the
touch order holds the OPEN slots and the emission queue the QUEUED ones, each once; the one EMITTING slot is the
port's current item; the port sends the reset pattern exactly while the part is STARTING. -/
def State.slotsConsistent (s : State) : Prop :=
  let slotIn (n : Nat) (st : SlotState) : Prop := ∃ e, s.ctb.slots.read n = some e ∧ e.state = st
  s.ctb.slots.wf = true ∧ (∀ e ∈ s.ctb.slots, e.1 < 2048) ∧
  (s.part = .starting ↔ s.cop.state = .reset) ∧
  s.ctb.touch.Nodup ∧ (queuedSlots s.ctb.queue).Nodup ∧
  (∀ n, n ∈ s.ctb.touch ↔ slotIn n .opened) ∧
  (∀ n, .slot n ∈ s.ctb.queue ↔ slotIn n .queued) ∧
  (∀ n, s.cop.state.slot? = some n ↔ slotIn n .emitting)

/-! What the shared effects leave, written out: each is the state after it, every other field as before. -/

/-- `n` more on a count that stops at `limit`. -/
def raisedBy (limit old n : Nat) : Nat := if n = 0 then old else min limit (old + n)

/-- A context after `n` refusals with a verdict were counted (R64): only while it is open and its summary is not
fixed. -/
def Context.refusedBy (x : Context) (code : VerdictCode) (n : Nat) : Context :=
  if x.isOpen = true ∧ x.summary.fixed = none then
    { x with summary := { x.summary with refusals := x.summary.refusals.mapIdx fun i r =>
        if i + 1 = code.toNat then raisedBy 4294967295 r n else r } }
  else x

/-- Exposure control after strips that carried these exposure numbers were refused (R64). -/
def Exc.refusalsCounted (x : Exc) (exposures : List Nat) (code : VerdictCode) : Exc :=
  { x with
    ctxA := x.ctxA.refusedBy code (exposures.countP fun n => x.carrying n == some .A)
    ctxB := x.ctxB.refusedBy code (exposures.countP fun n => x.carrying n == some .B) }

/-- The verdict of a strip (R85). -/
def Strip.verdict (u : Strip) (x : Exc) (code : VerdictCode) : Verdict :=
  { seg := u.seg, first := u.first, code := code, next := x.nextExpected u.exposure u.seg }

/-- The catalogue after the markers that pass a test were cleared (R17). -/
def Cat.unmarked (c : Cat) (test : Marker → Bool) : Cat :=
  { c with entries := c.entries.map fun e =>
      (e.1, if e.2.marker.any test = true then { e.2 with marker := none } else e.2) }

/-- The strips of a port that an abandonment reaches: RECEIVING or READY, the older buffer's first (R88). -/
def Port.reached (q : Port) (test : Strip → Bool) : List Strip :=
  q.oldestFirst.filterMap fun b => (q.buffers[b].abandonable?).filter test

/-- A port after the strips that pass a test were abandoned with a verdict (R86, R88). -/
def Port.abandonedBy (q : Port) (x : Exc) (test : Strip → Bool) (code : VerdictCode) : Port :=
  { q with
    buffers := q.buffers.map fun b => if (b.abandonable?).any test = true then .idle else b
    older := if q.reached test = [] then q.older else none
    receive := if (q.buffers.toList.any fun b => b.isReceiving && (b.abandonable?).any test) = true then .discarding
      else q.receive
    verdicts := if q.up = true
      then q.verdicts ++ ((q.reached test).map fun u => u.verdict x code).take (8 - q.verdicts.length)
      else q.verdicts }

/-- The part after the strips that pass a test were abandoned with a verdict (R17, R64, R88): buffers IDLE,
verdicts queued in port order, a RECEIVING strip's port DISCARDING, markers cleared, refusals counted. -/
def State.abandonedBy (s : State) (test : Strip → Bool) (code : VerdictCode) : State :=
  { s with
    ports := s.ports.map fun q => q.abandonedBy s.exc test code
    exc := s.exc.refusalsCounted (s.ports.toList.flatMap fun q => (q.reached test).map fun u => u.exposure) code
    cat := s.cat.unmarked fun m => (s.ports[m.port].buffers[m.buffer].abandonable?).any test }

/-- The part after the strip of a buffer ended BROKEN or CRC (R15, R84); the receive state is not said. -/
def State.brokenBy (s : State) (p : Fin 4) (b : Fin 2) (u : Strip) (code : VerdictCode) : State :=
  let q := s.ports[p]
  let limit := s.params.brokenLimit
  let turns (e : Entry) : Bool := decide (limit ≠ 0 ∧ limit ≤ min 15 (e.broken + 1) ∧ e.suspect = false)
  let cat := s.cat.unmarked fun m => m == { port := p, buffer := b }
  { s with
    ports := s.ports.set p { q with
      buffers := q.buffers.set b .idle
      older := none
      verdicts := if q.up = true ∧ q.verdicts.length < 8 then q.verdicts ++ [u.verdict s.exc code] else q.verdicts }
    exc := s.exc.refusalsCounted [u.exposure] code
    cat := { cat with entries := cat.entries.map fun e =>
      (e.1, if e.2.seg = u.seg then { e.2 with broken := min 15 (e.2.broken + 1), suspect := e.2.suspect || turns e.2 }
        else e.2) }
    att := { s.att with flags := s.att.flags |||
      if (s.cat.find u.seg).any (fun e => turns e.2) = true then 0b10000#9 else 0 } }

/-- A port after it went DOWN (R72). -/
def Port.wentDown (q : Port) : Port :=
  let gone := q.buffers.toList.filter fun b => b.abandonable?.isSome
  { q with
    up := false, receive := .awaiting, verdicts := []
    buffers := q.buffers.map fun b => if b.abandonable?.isSome = true then .idle else b
    older := if gone = [] then q.older else none
    abandonedDown := min 4294967295 (q.abandonedDown + gone.length) }

/-- The watches after each had its matches, the first of them first (R150). -/
def watchesAfter (ws : Vector Watch 8) (hits : Fin 8 → List FirstHit) : Vector Watch 8 :=
  Vector.ofFn fun i : Fin 8 =>
    { setting := ws[i].setting, count := raisedBy 65535 ws[i].count (hits i).length, first := ws[i].first.or (hits i).head? }

/-- The attention unit after the matches: WATCH is raised by the first hit of a watch (R150). -/
def Att.afterHits (a : Att) (ws : Vector Watch 8) (hits : Fin 8 → List FirstHit) : Att :=
  { a with flags := a.flags |||
      if ((List.finRange 8).any fun i => ws[i].first.isNone && !(hits i).isEmpty) = true then 0b1000#9 else 0 }

/-- A context after `n` watch matches (R63, R150). -/
def Context.hitBy (x : Context) (n : Nat) : Context :=
  if x.isOpen = true ∧ x.summary.fixed = none then
    { x with summary := { x.summary with watchHits := raisedBy 4294967295 x.summary.watchHits n } }
  else x

/-- The watch set of the watches that see something. -/
def watchBits (ws : Vector Watch 8) (sees : Watch → Bool) : BitVec 8 :=
  (List.finRange 8).foldl (fun a i => if sees ws[i] = true then a ||| BitVec.twoPow 8 i.val else a) 0

/-- The watch matches a slot queued with a completeness (R144, R149). -/
def Watch.seesCell (w : Watch) (e : Slot) (k : Completeness) : Bool :=
  w.setting.any fun g => decide (g.kind = (if k = .complete then .cellDone else .cellPartial) ∧
    g.x0 ≤ 64 * e.cell.cx + 63 ∧ 64 * e.cell.cx ≤ g.x1 ∧ g.y0 ≤ 64 * e.cell.cy + 63 ∧ 64 * e.cell.cy ≤ g.y1)

/-- The watch matches an ACCEPTED pixel of a segment with its calibrated value (R106, R149). -/
def Watch.seesAccepted (xy : Nat × Nat) (seg : Nat) (v : Int) (w : Watch) : Bool :=
  w.setting.any fun g => decide ((g.x0 ≤ xy.1 ∧ xy.1 ≤ g.x1 ∧ g.y0 ≤ xy.2 ∧ xy.2 ≤ g.y1) ∧
    (g.kind = .covered ∨ (g.kind = .peakAbove ∧ g.threshold < v) ∨ (g.kind = .segment ∧ g.threshold = (seg : Int))))

/-- The watch matches a SATURATED pixel (R106, R149). -/
def Watch.seesSaturated (xy : Nat × Nat) (w : Watch) : Bool :=
  w.setting.any fun g => decide (g.x0 ≤ xy.1 ∧ xy.1 ≤ g.x1 ∧ g.y0 ≤ xy.2 ∧ xy.2 ≤ g.y1 ∧ g.kind = .saturated)

/-- The part with the record of one slot changed. -/
def State.withSlot (s : State) (n : Nat) (f : Slot → Slot) : State :=
  { s with ctb := { s.ctb with slots := s.ctb.slots.map fun e => (e.1, if e.1 = n then f e.2 else e.2) } }

/-- The part with the summary of one context changed. -/
def State.withSummary (s : State) (c : Ctx) (f : Summary → Summary) : State :=
  let x := s.ctx c
  { s with exc := s.exc.setCtx c { x with summary := f x.summary } }

/-- The part after a pixel in a slot was reported (R106, R150): the watches that see it, WATCH, the summary's
watch hits, and the slot's watch set. -/
def State.reportedBy (s : State) (c : Ctx) (n : Nat) (sees : Watch → Bool) (h : FirstHit) : State :=
  let hits (i : Fin 8) : List FirstHit := if sees s.watches[i] = true then [h] else []
  let t : State := { s with
    watches := watchesAfter s.watches hits
    att := s.att.afterHits s.watches hits
    exc := s.exc.setCtx c ((s.ctx c).hitBy (s.watches.toList.countP sees)) }
  t.withSlot n fun e => { e with watchSet := e.watchSet ||| watchBits s.watches sees }

/-- The part after some OPEN slots were queued with a completeness, one after another (R115, R120, R144): each
leaves the touch order for the tail of the emission queue, its part number is kept, and it is matched against
the cell-kind watches. -/
def State.queuedBy (s : State) (ns : List Nat) (k : Completeness) : State :=
  let es := ns.filterMap s.ctb.slots.read
  let of (c : Ctx) : List Slot := es.filter fun e => e.ctx == c
  let hits (i : Fin 8) : List FirstHit := (es.filter fun e => s.watches[i].seesCell e k).map fun e =>
    { exposure := (s.ctx e.ctx).number, cell := e.cell, seg := none }
  let matched (e : Slot) : Nat := s.watches.toList.countP fun w => w.seesCell e k
  let parts (r : Table Nat) (e : Slot) : Table Nat := r.write (e.cell.cy * 1024 + e.cell.cx) e.part
  { s with
    watches := watchesAfter s.watches hits
    att := s.att.afterHits s.watches hits
    exc := { s.exc with
      ctxA := s.exc.ctxA.hitBy ((of .A).map matched).sum
      ctxB := s.exc.ctxB.hitBy ((of .B).map matched).sum }
    ctb := { s.ctb with
      slots := s.ctb.slots.map fun e => (e.1, if e.1 ∈ ns then
          { e.2 with
            state := .queued, completeness := some k, pinned := false
            watchSet := e.2.watchSet ||| watchBits s.watches fun w => w.seesCell e.2 k }
        else e.2)
      touch := s.ctb.touch.filter fun n => decide (n ∉ ns)
      queue := s.ctb.queue ++ ns.map QueueItem.slot
      partsA := (of .A).foldl parts s.ctb.partsA
      partsB := (of .B).foldl parts s.ctb.partsB } }

/-- The part after some OPEN slots were dropped under a FLUSH (R133). -/
def State.droppedBy (s : State) (ns : List Nat) : State :=
  { s with ctb := { s.ctb with
      slots := s.ctb.slots.filter fun e => decide (e.1 ∉ ns)
      touch := s.ctb.touch.filter fun n => decide (n ∉ ns) } }

/-- SET WATCH, CLEAR WATCH or ACKNOWLEDGE (R151). -/
def watchRequest : Instr → Bool
  | .setWatch _ | .clearWatch _ | .acknowledge _ => true
  | _ => false

/-- A watch request waits first in the queue, behind those already taken ahead of their turn (log 35). -/
def State.requestWaits (s : State) : Bool := (s.pending[s.cmd.taken.length]?).any watchRequest

/-- The part after up to `m` watch requests that wait first in the queue were taken ahead of their turn (R151): each
has its effect and its reply then, and what its frame clocked out is kept for its turn (log 35). -/
def State.takenBetween : Nat → State → State
  | 0, s => s
  | m + 1, s =>
    match s.pending[s.cmd.taken.length]? with
    | none => s
    | some c =>
      if watchRequest c = true then
        match exec c { s with cmd := { s.cmd with taken := [] } } with
        | .next t => State.takenBetween m { t with cmd := { t.cmd with
            dataOut := s.cmd.dataOut, taken := s.cmd.taken ++ [t.cmd.dataOut] } }
        | _ => s
      else s

/-- The part after some OPEN slots were given up in a completion check or a forced close: dropped under a FLUSH, else
queued one after another with a completeness. Before slot `n`, if watch requests wait, `taken n` of them, or all, are
taken, so that a change of a watch record is seen by the slots after it (R151). -/
def State.givenUp (s : State) (taken : Nat → Nat) (ns : List Nat) (k : Completeness) : State :=
  if s.exc.flushing = true then s.droppedBy ns
  else if s.requestWaits = false then s.queuedBy ns k
  else ns.foldl (fun s n =>
    let s := if s.requestWaits = true then
        State.takenBetween (taken n) { s with cmd := { s.cmd with free := s.cmd.free + 1 } }
      else s
    s.queuedBy [n] k) s

/-- The touch order's slots whose record passes a test, least recently touched first. -/
def Ctb.touched (t : Ctb) (test : Slot → Bool) : List Nat := t.touch.filter fun n => (t.slots.read n).any test

/-- A completion check finds the slot complete: OPEN, no contributor EXPECTED, and no final part (R115, R119). -/
def Slot.found (e : Slot) : Bool :=
  e.state == .opened && (e.contributors.all fun q => q.state != .expected) && e.part != 65535

/-- The spill victims in the order they are chosen (R124): the candidates of the context opened earlier, then those
of the other, each least recently touched first. -/
def State.spillOrder (s : State) : List Nat :=
  let elder : Ctx :=
    if s.exc.ctxA.isOpen = true ∧ (s.exc.ctxB.isOpen = true → s.exc.ctxA.epoch ≤ s.exc.ctxB.epoch) then .A else .B
  let of (c : Ctx) : List Nat :=
    s.ctb.touched fun e => e.state == .opened && !e.pinned && e.part != 65535 && e.ctx == c
  of elder ++ of (otherCtx elder)

/-- The part after up to `lack` victims were spilled for the waiting row (R125). -/
def State.spilledBy (s : State) (lack : Nat) : State :=
  let ns := s.spillOrder.take lack
  let t := s.queuedBy ns .forced
  { t with
    att := { t.att with flags := t.att.flags ||| if ns = [] then 0 else 0b100000#9 }
    ple := { t.ple with commit := t.ple.commit.map fun k => { k with victims := k.victims ++ ns } } }

/-- The slot is the lowest-numbered FREE one (R114). -/
def Ctb.isLowestFree (t : Ctb) (n : Nat) : Prop :=
  n < 2048 ∧ t.slots.read n = none ∧ ∀ j < n, t.slots.read j ≠ none

/-- The contributor records of a cell, found pixel by pixel (R116, R117). -/
def State.contributorsOf (s : State) (c : Ctx) (cell : CellIndex) : List Contributor :=
  (s.ctx c).progress.filterMap fun r =>
    match s.resolved c r.seg with
    | none => none
    | some v =>
      let rows := (List.range v.rows).filter fun row => (List.range v.cols).any fun col => v.pixelCell row col == some cell
      match rows.head?, rows.getLast? with
      | some a, some b =>
        if r.withdrawn = true then none
        else some { seg := r.seg, first := a, last := b, state := if r.next ≤ b then .expected else .done,
                    suspect := none, pixels := 0 }
      | _, _ => none

/-- The part after the record of a slot was made for a cell of a commit, its opening begun (R114 to R117). -/
def State.openedBy (s : State) (k : Commit) (cell : CellIndex) (n : Nat) : State :=
  let qs := s.contributorsOf k.ctx cell
  let e : Slot :=
    { state := .opened, ctx := k.ctx, cell := cell
      part := (((s.ctb.parts k.ctx).read (cell.cy * 1024 + cell.cx)).getD 0) + 1
      completeness := none, contributors := qs.take 8, pixels := 0, defect := 0, saturated := 0, crowded := 0
      damaged := 0, crowdedFlag := decide (8 < qs.length), damagedFlag := false, watchSet := 0, pinned := true }
  { s with
    ctb := { s.ctb with slots := s.ctb.slots.write n e, touch := s.ctb.touch ++ [n] }
    ple := { s.ple with commit := some { k with opening := some n } } }

/-- What asking for cells leaves (R102, R114, R122), from a part whose commit is `k`. The slots found are pinned. With
a slot FREE, the first cell that has none is opened in the lowest and the rest wait to be asked for. When all were
asked for, the row goes to PLACE, or with cells left to WAIT, where an attempt is made on entry. -/
def State.askedFor (s : State) (k : Commit) (cells : List CellIndex) (t : State) : Prop :=
  let found (cell : CellIndex) : Bool := (s.ctb.index k.ctx cell).isSome
  let pinned (cs : List CellIndex) : State := { s with ctb := { s.ctb with slots := s.ctb.slots.map fun e =>
    (e.1, if ∃ cell ∈ cs, s.ctb.index k.ctx cell = some e.1 then { e.2 with pinned := true } else e.2) } }
  let left := k.missing ++ cells.filter fun cell => !found cell
  (∀ before cell after n, cells = before ++ cell :: after → (∀ b ∈ before, found b = true) → found cell = false →
    s.ctb.isLowestFree n → t = (pinned before).openedBy { k with toAsk := after } cell n) ∧
  ((∀ cell ∈ cells, found cell = true) ∨ (∀ n < 2048, s.ctb.slots.read n ≠ none) →
    let u := pinned cells
    t = if left = [] then { u with ple := { s.ple with commit := some { k with phase := .place, col := 0 } } }
      else State.attempt { u with ple := { s.ple with commit := some { k with
        phase := .wait, missing := left, victims := [] } } })

/-- The part after the natural-end check of a context (R57, R59). -/
def State.naturallyEnded (s : State) (c : Ctx) : State :=
  let x := s.ctx c
  if x.state = .gathering ∧ x.endCause = none ∧ s.exc.flushing = false ∧
      (∀ r ∈ x.progress, r.withdrawn = true ∨ s.finished c r = true) then
    State.abandonedBy { s with exc := s.exc.setCtx c { x with endCause := some .natural, timer := none } }
      (fun u => u.ctx == c) .late
  else s

/-- The disturbed mark after changes of some segments' entries (R24). -/
def Signature.afterAll (g : Signature) (segs : List Nat) : Signature :=
  if g.status = .running ∧ ∃ seg ∈ segs, seg < g.position then { g with disturbed := true } else g

/-- The catalogue after a release against some contexts (R30, R37): a RETIRING entry none of them holds becomes
VACANT; every other entry keeps its newest version and those they resolve. -/
def Cat.releasedFor (c : Cat) (xs : List Context) : Cat :=
  let gone (e : Entry) : Bool := e.state == .retiring && xs.all fun x => !x.holds e.seg
  let kept (e : Entry) : List Installed :=
    e.installed.filter fun k => e.installed.getLast? == some k || xs.any fun x => x.resolve e == some k
  { c with
    entries := (c.entries.filter fun e => !gone e.2).map fun e => (e.1, { e.2 with installed := kept e.2 })
    sign := c.sign.afterAll ((c.entries.filter fun e => gone e.2).map fun e => e.2.seg) }

/-- The catalogue after a boundary beside some open contexts (R27, R29, R30): the epoch increments, staged versions are
installed with the new epoch, staged retirements take effect, and versions and entries are released. -/
def Cat.boundaryFor (c : Cat) (xs : List Context) : Cat :=
  let stepped (e : Entry) : Entry :=
    match e.staged with
    | none => e
    | some (.version v) => { e with
        state := if e.state = .pending then .live else e.state
        installed := e.installed ++ [{ version := v, epoch := c.epoch + 1 }]
        staged := none, suspect := false, broken := 0 }
    | some .retirement => { e with state := if e.state = .live then .retiring else e.state, staged := none }
  Cat.releasedFor { c with
    epoch := c.epoch + 1
    entries := c.entries.map fun e => (e.1, stepped e.2)
    sign := c.sign.afterAll ((c.entries.filter fun e => e.2.staged.isSome).map fun e => e.2.seg) } xs

/-- The part after the errors that reads of a slot's records found, at distinct positions (R107, R139): corrections
counted; a pair with an uncorrectable error cleared and marked, counted in the slot when the mark is new; MEMORY. -/
def State.errorsBy (s : State) (n : Nat) (found : List (Nat × MemoryError)) : State :=
  let lost := found.filter fun e => e.2 == .uncorrectable
  let fresh := (lost.filter fun e => !(Memory.read s.ctb.memory (n * 4096 + e.1)).damaged).length
  let t := s.withSlot n fun e =>
    { e with damaged := e.damaged + fresh, damagedFlag := e.damagedFlag || decide (0 < fresh) }
  { t with
    ctb := { t.ctb with
      corrected := raisedBy 4294967295 s.ctb.corrected (found.length - lost.length)
      memory := lost.foldl (fun m e => Memory.write m (n * 4096 + e.1) { sum := 0, weight := 0, damaged := true })
        s.ctb.memory }
    att := { s.att with flags := s.att.flags ||| if lost = [] then 0 else 0b10000000#9 } }

/-- The part before the checks of a header on a port (R76): a strip being received ended BROKEN. -/
def State.headerStart (s : State) (p : Fin 4) : Option (Fin 2 × Strip) → State
  | none => s
  | some e => s.brokenBy p e.1 e.2 .broken

/-- The strip a port is receiving, with its buffer. -/
def Port.isReceiving (q : Port) : Option (Fin 2 × Strip) → Prop
  | none => ∀ b : Fin 2, q.buffers[b].isReceiving = false
  | some e => q.buffers[e.1] = .receiving e.2 ∧ (e.1 = 1 → q.buffers[(0 : Fin 2)].isReceiving = false)

/-- A field code fails validation (R11). -/
def Staging.fails (g : Staging) (code : Nat) : Prop :=
  match code with
  | 0 => False
  | 1 => g.rows = none
  | 2 => g.cols = none
  | 3 => g.originX = none
  | 4 => g.originY = none
  | 5 => g.colStepX = none
  | 6 => g.colStepY = none
  | 7 => g.rowStepX = none
  | 8 => g.rowStepY = none
  | 9 => g.bias = none
  | 10 => g.gain = none
  | 11 => ∀ l, g.flat = some l → ∃ cols, g.cols = some cols ∧ l.length ≠ (cols + 63) / 64
  | 12 => g.saturation = none
  | 13 => g.weight = none
  | 14 => g.defectCount = none
  | i => ∃ n, g.defectCount = some n ∧ i < 15 + n ∧ ∀ p, g.defects.read (i - 15) = some p →
      (∃ rows, g.rows = some rows ∧ rows ≤ p.row) ∨ ∃ cols, g.cols = some cols ∧ cols ≤ p.col


/-- The part with what a port does with the next message. -/
def State.receiveIn (s : State) (p : Fin 4) (r : ReceiveState) : State :=
  { s with ports := s.ports.set p { s.ports[p] with receive := r } }

/-- The part with the entry of one buffer. -/
def State.withBuffer (s : State) (p : Fin 4) (b : Fin 2) (u : Buffer) : State :=
  { s with ports := s.ports.set p { s.ports[p] with buffers := s.ports[p].buffers.set b u } }

/-- What the reads that found errors leave of one record. -/
def foundIn (found : List (Nat × MemoryError)) (position : Nat) (r : SkyRecord) : SkyRecord :=
  if (position, MemoryError.uncorrectable) ∈ found then { sum := 0, weight := 0, damaged := true } else r

/-- The header unit, 9 + 3k words (10.4). -/
def CellHeader.sentWords (h : CellHeader) : List Word :=
  let completeness : BitVec 2 := match h.completeness with
    | none => 0
    | some .complete => 1
    | some .partly => 2
    | some .forced => 3
  [BitVec.ofNat 4 h.instanceNo ++ completeness ++ BitVec.ofBool h.crowdedFlag ++ BitVec.ofBool h.damagedFlag
      ++ BitVec.ofBool h.suspectFlag ++ 0#7 ++ BitVec.ofNat 16 h.exposure,
   BitVec.ofNat 32 h.epoch,
   BitVec.ofNat 16 h.cell.cx ++ BitVec.ofNat 16 h.cell.cy,
   BitVec.ofNat 16 h.part ++ h.watchSet ++ BitVec.ofNat 8 h.contributors.length,
   BitVec.ofNat 32 h.pixels, BitVec.ofNat 32 h.defect, BitVec.ofNat 32 h.saturated, BitVec.ofNat 32 h.crowded,
   BitVec.ofNat 32 h.damaged]
  ++ h.contributors.flatMap fun q =>
    let state : BitVec 8 := match q.state with
      | .expected => 0
      | .done => 1
      | .withdrawn => 2
    [BitVec.ofNat 16 q.seg ++ state ++ BitVec.ofBool (q.suspect == some true) ++ 0#7,
     BitVec.ofNat 16 q.first ++ BitVec.ofNat 16 q.last, BitVec.ofNat 32 q.pixels]

/-- Payload unit ROW y: 64 pixels in rising x, each its value and its weight, or two zero words if BLANK (10.4). -/
def rowSent (rows : Table OutputPixel) (y : Nat) : List Word :=
  (List.range 64).flatMap fun x => match rows.read (y * 64 + x) with
    | none => [0, 0]
    | some p => [BitVec.ofInt 32 p.value, BitVec.ofNat 32 p.weight]

/-- Segment ids two to a word, the first in bits 31 to 16, an odd one out beside zero (10.4). -/
def idsSent (ids : List Nat) : List Word :=
  (List.range ((ids.length + 1) / 2)).map fun i =>
    BitVec.ofNat 16 (ids.getD (2 * i) 0) ++ BitVec.ofNat 16 (ids.getD (2 * i + 1) 0)

/-- The words of a trailer before its CRC-32 (10.4). -/
def Trailer.sentWords (r : Trailer) : List Word :=
  let m := r.summary
  let cause : BitVec 2 := match r.endCause with
    | none => 0
    | some .natural => 1
    | some .limit => 2
    | some .ended => 3
  [BitVec.ofNat 4 r.instanceNo ++ (if r.ctx = .A then 0#1 else 1#1) ++ cause ++ 0#9 ++ BitVec.ofNat 16 r.number]
  ++ ([r.epoch, r.expected, m.finished, m.accepted] ++ m.refusals.toList
    ++ [m.pixels, m.defect, m.saturated, m.offGrid, m.crowded, m.cellsComplete, m.cellsPartial, m.cellsForced,
        m.damaged, m.watchHits]).map (BitVec.ofNat 32)
  ++ [BitVec.ofNat 16 r.lists.missing.length ++ BitVec.ofNat 16 r.lists.withdrawn.length]
  ++ idsSent r.lists.missing ++ idsSent r.lists.withdrawn

/-- The CRC-32 of some words (R177). -/
def crcSent (words : List Word) : Word := ~~~(crc32Words 0xFFFFFFFF#32 words)

end Sys2Proof.Machine

open Sys2Proof Sys2Proof.Machine

/-! ### The block and its queue -/

/-- A step takes the command at the front of the queue and runs it on the part with the queue's rest. -/
def Obligations.StepRunsTheFrontCommand : Prop :=
  ∀ (c : Instr) (rest : List Instr) (s : State),
    step { s with pending := c :: rest } = exec c { s with pending := rest }

/-- On an empty queue a step is one tick (the model's choice, log 2): a running gather timer or batch window
counts down, and the expiries of those that reach 0 join the queue, context A's before context B's and both before
the batch window's; nothing else changes. -/
def Obligations.EmptyQueueStepIsOneTick : Prop :=
  ∀ s : State, s.pending = [] →
    let due (expires : Prop) [Decidable expires] (c : Instr) : List Instr := if expires then [c] else []
    step s = .next { s with
      exc := { s.exc with
        ctxA := { s.exc.ctxA with timer := s.exc.ctxA.timer.map (· - 1) }
        ctxB := { s.exc.ctxB with timer := s.exc.ctxB.timer.map (· - 1) } }
      cat := { s.cat with batch := match s.cat.batch with
        | .window ms => .window (ms - 1)
        | other => other }
      pending := due (s.exc.ctxA.timer = some 1) (.gatherTimerExpiry .A)
        ++ due (s.exc.ctxB.timer = some 1) (.gatherTimerExpiry .B)
        ++ due (s.cat.batch = .window 1) .batchWindowExpiry }

/-- Every command has an effect in every state: none ends in a fault or a refusal. (A completion
of an operation that is not in progress changes nothing: the model's choice, log 3.) -/
def Obligations.EveryCommandAnswersANextState : Prop :=
  ∀ (c : Instr) (s : State), ∃ t, exec c s = .next t

/-! ### The command port (chapter 9) -/

/-- STATUS is answered OK in every part state with the 37 bytes of 10.1 and changes nothing else but `free`, the
number of the next free value: the model's own field (logs 16 and 17, DESIGN CHOICE), which gives the bytes of the last
long result that the manual leaves open, and of which nothing is said here. -/
def Obligations.StatusReplyShowsTheStateOfThePart : Prop :=
  ∀ (s : State) (f : Frame), f.payload = [] →
    let counted (t : State) : State := { t with cmd := { t.cmd with free := s.cmd.free + 1 } }
    ∃ p : List Byte, exec (.status f) s = .next (counted (s.answeredWith f s.cmd.cursor .ok p)) ∧ p.length = 37 ∧
      p[0]? = some (if s.part = .ready then (1 : Byte) else 0) ∧
      p[1]? = some (match s.cmd.long.map fun l => l.kind with
        | none => (0 : Byte)
        | some .commit => 1
        | some .signCatalogue => 2
        | some .flush => 3) ∧
      (s.cmd.last = none → p[2]? = some 0) ∧
      (∀ r, s.cmd.last = some r →
        p[2]? = some (match r.kind with
          | .commit => (1 : Byte)
          | .signCatalogue => 2
          | .flush => 3) ∧
        p[3]? = some r.tag ∧
        p[4]? = some (match r.result with
          | .ok => (1 : Byte)
          | .signed => 2
          | .disturbed => 3) ∧
        ∀ v, r.value = some v → natOf ((p.drop 5).take 4) = v.toNat) ∧
      natOf ((p.drop 9).take 2) = s.att.flags.toNat ∧ natOf ((p.drop 11).take 2) = s.att.enables.toNat ∧
      p[13]? = some (BitVec.ofNat 8 s.exc.ctxA.state.code) ∧
      natOf ((p.drop 14).take 2) = (if s.exc.ctxA.state = .free then 0 else s.exc.ctxA.number % 65536) ∧
      p[16]? = some (BitVec.ofNat 8 s.exc.ctxB.state.code) ∧
      natOf ((p.drop 17).take 2) = (if s.exc.ctxB.state = .free then 0 else s.exc.ctxB.number % 65536) ∧
      natOf ((p.drop 19).take 2) = (256 - s.cat.entries.length) % 65536 ∧
      natOf ((p.drop 21).take 2) = (s.cat.entries.filter fun e => e.2.state == .pending).length % 65536 ∧
      natOf ((p.drop 23).take 2) = (s.cat.entries.filter fun e => e.2.state == .live).length % 65536 ∧
      natOf ((p.drop 25).take 2) = (s.cat.entries.filter fun e => e.2.state == .retiring).length % 65536 ∧
      natOf ((p.drop 27).take 4) = s.cat.epoch % 4294967296 ∧
      natOf ((p.drop 31).take 2) = (2048 - s.ctb.slots.length) % 65536 ∧
      natOf ((p.drop 33).take 2) = s.ctb.queue.length % 65536 ∧
      p[35]? = some (if s.cat.batch = .closed then (0 : Byte) else 1) ∧
      p[36]? = some (match s.cat.sign.status with
        | .none => (0 : Byte)
        | .running => 1
        | .signed => 2
        | .disturbed => 3)

/-- READ MORE: STATE on an empty cursor; the next chunk below the end of the answer; at the end STATE, and
the cursor becomes empty. -/
def Obligations.ReadMoreReturnsTheNextChunk : Prop :=
  ∀ (s : State) (f : Frame), s.part = .ready → f.payload = [] →
    (s.cmd.cursor = none → exec (.readMore f) s = .next (s.answeredWith f none .state [])) ∧
    (∀ c, s.cmd.cursor = some c → c < s.cmd.store.length →
      exec (.readMore f) s = .next (s.answeredWith f (some (c + min 56 (s.cmd.store.length - c))) .ok
        ((s.cmd.store.drop c).take 56))) ∧
    (∀ c, s.cmd.cursor = some c → s.cmd.store.length ≤ c →
      exec (.readMore f) s = .next (s.answeredWith f none .state []))

/-- The frames that are frame errors, and what one does: it is discarded, answered FRAME_ERROR with tag 0,
and counted; the cursor and every block stay as they were. -/
def Obligations.FrameErrorIsAnsweredAndCounted : Prop :=
  (∀ bs : List Byte, decodeFrame bs = .frameError bs ↔
    bs.length < 3 ∨ 56 < (bs.getD 2 0).toNat ∨ bs.length < 4 + (bs.getD 2 0).toNat ∨
      bs.getD (3 + (bs.getD 2 0).toNat) 0 ≠ crc8 (bs.take (3 + (bs.getD 2 0).toNat))) ∧
  ∀ (s : State) (bs : List Byte), exec (.frameError bs) s = .next { s with cmd := { s.cmd with
    dataOut := clockedOut s.cmd.replySlot bs.length
    frameErrors := min 4294967295 (s.cmd.frameErrors + 1)
    replySlot := some { status := .frameError, tag := 0, payload := [] } } }

/-- A full reset by pin or RESET PART puts every block in its reset state; waiting commands, the pause
line's level and cell memory (logs 13, 15) stay. RESET PART then answers OK with clear flags, STARTING. At the end
of the clearing every record of cell memory reads clear, the part is READY, and the cell output port IDLE. -/
def Obligations.FullResetAndStartupReachEveryBlock : Prop :=
  (∀ s : State,
    exec .fullReset s = .next { State.reset with
      pending := s.pending
      cop := { State.reset.cop with pause := s.cop.pause }
      ctb := { State.reset.ctb with memory := s.ctb.memory }
      cmd := { State.reset.cmd with dataOut := s.cmd.dataOut, free := s.cmd.free } } ∧
    ∀ f : Frame, s.part = .ready → f.payload = [] →
      exec (.resetPart f) s = .next { State.reset with
        pending := s.pending
        cop := { State.reset.cop with pause := s.cop.pause }
        ctb := { State.reset.ctb with memory := s.ctb.memory }
        cmd := { State.reset.cmd with
          dataOut := clockedOut s.cmd.replySlot f.length
          free := s.cmd.free
          replySlot := some { status := .ok, tag := f.tag, payload := [0, 0, 0] } } }) ∧
  ∀ s : State, s.part = .starting → s.ctb.queue = [] →
    ∃ t, exec .startupClearingEnd s = .next t ∧
      t = { s with part := .ready, cop := { s.cop with state := .idle }, ctb := { s.ctb with memory := t.ctb.memory } } ∧
      ∀ a, Memory.read t.ctb.memory a = { sum := 0, weight := 0, damaged := false }

/-- What changes only the reply. NOP is answered OK with an empty payload in every part state. A kind that names
no request is answered UNKNOWN_REQUEST in every part state. While the part is STARTING, every request but NOP and
STATUS is answered STARTING. The cursor is as it was. A SET WATCH, CLEAR WATCH or ACKNOWLEDGE that was taken ahead of its
turn, between two slots of a check or a close (R151), has had its effect and its reply then, and in its turn gives out
the bytes its frame clocked out and nothing else. (`dataOut`, the bytes clocked out, and `taken` are the model's own
fields, logs 23 and 35.) -/
def Obligations.NopAndRequestsNotTakenChangeOnlyTheReply : Prop :=
  (∀ (c : Instr) (s : State) (out : List Byte) (rest : List (List Byte)), watchRequest c = true →
    s.cmd.taken = out :: rest →
    exec c s = .next { s with cmd := { s.cmd with dataOut := out, taken := rest } }) ∧
  (∀ (s : State) (f : Frame), f.payload = [] →
    exec (.nop f) s = .next (s.answeredWith f s.cmd.cursor .ok [])) ∧
  (∀ (s : State) (k : Byte) (f : Frame), requestOf k f = none →
    exec (.unknownRequest k f) s = .next (s.answeredWith f s.cmd.cursor .unknownRequest [])) ∧
  ∀ (c : Instr) (k : Byte) (f : Frame) (s : State), requestOf k f = some c → k ≠ 0x01 → k ≠ 0x02 →
    (watchRequest c = true → s.cmd.taken = []) →
    s.part = .starting → exec c s = .next (s.answeredWith f s.cmd.cursor .starting [])

/-- A payload whose length does not fit 10.1, or for PUT FIELD and READ CELL R179, is refused INVALID with argument
code 47. It cancels the cursor, but for NOP, STATUS and READ MORE; the owner sees nothing of it. (A watch request that was
taken ahead of its turn: NopAndRequestsNotTakenChangeOnlyTheReply.) -/
def Obligations.WrongPayloadLengthIsInvalid47 : Prop :=
  (∀ (c : Instr) (k : Byte) (f : Frame) (n : Nat) (s : State), requestOf k f = some c →
    (watchRequest c = true → s.cmd.taken = []) →
    fixedLength k.toNat = some n → f.payload.length ≠ n → (s.part = .ready ∨ k = 0x01 ∨ k = 0x02) →
    exec c s = .next (s.answeredWith f (if k = 0x01 ∨ k = 0x02 ∨ k = 0x60 then s.cmd.cursor else none) .invalid [47])) ∧
  ∀ (s : State) (f : Frame), s.part = .ready →
    let code := f.nat 0 1
    let valueBytes : Nat :=
      if code ∈ [13, 14] then 1
      else if code ∈ [1, 2, 9, 10, 12] then 2
      else if code ∈ [3, 4, 5, 6, 7, 8] then 4
      else if code = 11 then 1 + 2 * f.nat 1 1
      else 5
    (f.payload = [] ∨ (1 ≤ code ∧ code ≤ 30 ∧ f.payload.length ≠ 1 + valueBytes) →
      exec (.putField f) s = .next (s.answered f .invalid [47])) ∧
    (f.payload = [] ∨ (code = 1 ∧ f.payload.length ≠ 6) ∨ (code = 2 ∧ f.payload.length ≠ 3) →
      exec (.readCell f) s = .next (s.answered f .invalid [47]))

/-- SET PARAMETER: codes and ranges of R170; the parameter takes the value, the reply is OK, and the write
has the further effects of R171. A write of SPILL makes an attempt for a waiting row (what one does:
CellOpeningClearsItsMemory); with every slot taken and SPILL 1 it spills at once, also while a cell is being opened.
A port left out of LINK_ENABLE goes DOWN, and one put in comes UP if it has word sync. -/
def Obligations.SetParameterWritesValuesInRange : Prop :=
  ∀ (s : State) (f : Frame), s.part = .ready → f.payload.length = 5 →
    let code := f.nat 0 1
    let v := f.nat 1 4
    let run := exec (.setParameter f) s
    let okWith (g : Params) : State := { s.answered f .ok [] with params := g }
    (code = 0 ∨ 10 < code → run = .next (s.answered f .invalid [48])) ∧
    ((code = 1 ∧ (v < 100 ∨ 60000 < v)) ∨ (code = 2 ∧ (v < 1 ∨ 1000 < v)) ∨ (code = 3 ∧ 15 < v) ∨
      (4 ≤ code ∧ code ≤ 7 ∧ 1 < v) ∨ (code = 8 ∧ 65535 < v) ∨ (code = 9 ∧ 15 < v) ∨ (code = 10 ∧ 15 < v) →
      run = .next (s.answered f .invalid [49])) ∧
    (code = 1 → 100 ≤ v ∧ v ≤ 60000 → run = .next (okWith { s.params with gatherLimit := v })) ∧
    (code = 2 → 1 ≤ v ∧ v ≤ 1000 → run = .next (okWith { s.params with batchWindow := v })) ∧
    (code = 3 → v ≤ 15 → run = .next (okWith { s.params with brokenLimit := v })) ∧
    (code = 4 → v ≤ 1 →
      let written := okWith { s.params with spill := v == 1 }
      run = .next written.attempt.takeHead ∧
      ((∀ k, s.ple.commit = some k → k.phase ≠ .wait) → run = .next written.takeHead) ∧
      ∀ k, s.ple.commit = some k → k.phase = .wait → k.missing ≠ [] → (∀ n < 2048, s.ctb.slots.read n ≠ none) →
        s.exc.flushing = false → s.slotsConsistent →
        run = .next (if v = 1 then written.spilledBy (k.missing.length - k.victims.length) else written).takeHead) ∧
    (code = 5 → v ≤ 1 → run = .next (okWith { s.params with summaryHold := v == 1 })) ∧
    (code = 6 → v = 1 → run = .next (okWith { s.params with shutterUse := true })) ∧
    (code = 6 → v = 0 → run = .next { okWith { s.params with shutterUse := false } with
      exc := { s.exc with latch := { opening := false, closing := false } } }) ∧
    (code = 7 → v ≤ 1 → run = .next (okWith { s.params with shutterSense := if v = 1 then .falling else .rising })) ∧
    (code = 8 → v ≤ 65535 → run = .next (okWith { s.params with nextExposure := v })) ∧
    (code = 9 → v ≤ 15 →
      let leaves (p : Fin 4) : Bool := s.ports[p].up && !v.testBit p.val
      run = .next { okWith { s.params with linkEnable := BitVec.ofNat 4 v } with
        ports := Vector.ofFn fun p : Fin 4 =>
          let q := s.ports[p]
          if leaves p = true then q.wentDown
          else if q.up = false ∧ q.sync = true ∧ v.testBit p.val = true then { q with up := true, receive := .awaiting }
          else q
        cat := s.cat.unmarked fun m => leaves m.port && (s.ports[m.port].buffers[m.buffer].abandonable?).isSome
        att := { s.att with flags := s.att.flags |||
          if ((List.finRange 4).any leaves) = true then 0b1000000#9 else 0 } }) ∧
    (code = 10 → v ≤ 15 → run = .next (okWith { s.params with instanceNo := v }))

/-- READ PARAMETER: the code and value of the parameter named, or of all ten in code order; another value is
INVALID with argument code 48. That the ten of ALL are no list with a 2-byte length is the model's choice (R175 against
R172; log 22, DESIGN CHOICE). -/
def Obligations.ReadParameterGivesCodeAndValue : Prop :=
  ∀ (s : State) (f : Frame), s.part = .ready → f.payload.length = 1 →
    (f.nat 0 1 = 255 → exec (.readParameter f) s = .next (s.captured f
      ((List.range 10).flatMap fun i => bytesOf 1 (i + 1) ++ bytesOf 4 (s.params.values.getD i 0)))) ∧
    (∀ i < 10, f.nat 0 1 = i + 1 → exec (.readParameter f) s = .next (s.captured f
      (bytesOf 1 (i + 1) ++ bytesOf 4 (s.params.values.getD i 0)))) ∧
    (f.nat 0 1 = 0 ∨ (10 < f.nat 0 1 ∧ f.nat 0 1 ≠ 255) →
      exec (.readParameter f) s = .next (s.answered f .invalid [48]))

/-- READ COUNTERS captures, for each port in order, its link, receive and buffer states, hold indication,
verdict count and three counters; then the engine, the corrected counter, the cell output port and the count
of frame errors. That the items of the four ports are no list with a 2-byte length (R175), and the layout of absent
items, are the model's choice (log 20, DESIGN CHOICE). -/
def Obligations.ReadCountersCapturesEveryCounter : Prop :=
  ∀ (s : State) (f : Frame), s.part = .ready → f.payload = [] →
    ∃ items, exec (.readCounters f) s = .next (s.captured f items) ∧
      (∀ p : Fin 4, (items.drop (18 * p.val)).take 18 =
        flagByte s.ports[p].up ++ bytesOf 1 s.ports[p].receive.code ++ bytesOf 1 s.ports[p].buffers[0].code
          ++ bytesOf 1 s.ports[p].buffers[1].code ++ flagByte s.ports[p].hold
          ++ bytesOf 1 s.ports[p].verdicts.length ++ bytesOf 4 s.ports[p].headersSeen
          ++ bytesOf 4 s.ports[p].refusedUnknown ++ bytesOf 4 s.ports[p].abandonedDown) ∧
      (items.drop 72).take 2 = flagByte s.ple.commit.isSome ++ bytesOf 1 s.ple.lastServed.val ∧
      (∀ k, s.ple.commit = some k → (items.drop 74).take 7 =
        bytesOf 1 k.port.val ++ bytesOf 1 k.buffer.val ++ bytesOf 2 k.seg ++ bytesOf 2 k.row
          ++ bytesOf 1 k.phase.code) ∧
      (items.drop 81).take 4 = bytesOf 4 s.ctb.corrected ∧
      (items.drop 85).take 2 = bytesOf 1 s.cop.state.code ++ flagByte s.cop.pause ∧
      (∀ n, s.cop.state = .preparing n → (items.drop 87).take 3 = bytesOf 1 0 ++ bytesOf 2 n) ∧
      (∀ n h rows u held, s.cop.state = .sendingCell n h rows u held →
        (items.drop 87).take 4 = bytesOf 1 0 ++ bytesOf 2 n ++ bytesOf 1 u) ∧
      (∀ r point, s.cop.state = .sendingTrailer r point →
        (items.drop 87).take 3 = bytesOf 1 1 ++ bytesOf 1 (ctxCode r.ctx) ++ bytesOf 1 65) ∧
      items.drop (items.length - 4) = bytesOf 4 s.cmd.frameErrors

/-! ### The segment catalogue (chapters 1 and 2) -/

/-- PUT FIELD: a code outside 1..30 is INVALID 36; a value in the field's range makes that field present and
changes nothing else; a value out of range is INVALID naming the field. -/
def Obligations.PutFieldMakesOneFieldPresent : Prop :=
  ∀ (s : State) (f : Frame), s.part = .ready →
    let code := f.nat 0 1
    let run := exec (.putField f) s
    let g := s.cat.staging
    let put (g : Staging) : Host.Outcome State Fault Refusal :=
      .next { s.answered f .ok [] with cat := { s.cat with staging := g } }
    let bad : Host.Outcome State Fault Refusal := .next (s.answered f .invalid [BitVec.ofNat 8 code])
    let two := f.nat 1 2
    let one := f.nat 1 1
    let step := f.int 1 4
    let stepIn : Prop := -131072 ≤ step ∧ step ≤ 131072
    (1 ≤ f.payload.length → code = 0 ∨ 30 < code → run = .next (s.answered f .invalid [36])) ∧
    (f.payload.length = 3 →
      (code = 1 → run = if 1 ≤ two ∧ two ≤ 4096 then put { g with rows := some two } else bad) ∧
      (code = 2 → run = if 1 ≤ two ∧ two ≤ 1024 then put { g with cols := some two } else bad) ∧
      (code = 9 → run = put { g with bias := some two }) ∧
      (code = 10 → run = if 1 ≤ two then put { g with gain := some two } else bad) ∧
      (code = 12 → run = if 1 ≤ two then put { g with saturation := some two } else bad)) ∧
    (f.payload.length = 5 →
      (code = 3 → run = put { g with originX := some (f.nat 1 4) }) ∧
      (code = 4 → run = put { g with originY := some (f.nat 1 4) }) ∧
      (code = 5 → (stepIn → run = put { g with colStepX := some step }) ∧ (¬stepIn → run = bad)) ∧
      (code = 6 → (stepIn → run = put { g with colStepY := some step }) ∧ (¬stepIn → run = bad)) ∧
      (code = 7 → (stepIn → run = put { g with rowStepX := some step }) ∧ (¬stepIn → run = bad)) ∧
      (code = 8 → (stepIn → run = put { g with rowStepY := some step }) ∧ (¬stepIn → run = bad))) ∧
    (f.payload.length = 2 →
      (code = 13 → run = if 1 ≤ one then put { g with weight := some one } else bad) ∧
      (code = 14 → run = if one ≤ 16 then put { g with defectCount := some one } else bad)) ∧
    (code = 11 → 2 ≤ f.payload.length → f.payload.length = 2 + 2 * one →
      let vs := (List.range one).map fun i => f.nat (2 + 2 * i) 2
      run = if 1 ≤ one ∧ one ≤ 16 ∧ 0 ∉ vs then put { g with flat := some vs } else bad) ∧
    (15 ≤ code → code ≤ 30 → f.payload.length = 6 →
      run = if f.nat 1 2 ≤ 4095 ∧ f.nat 3 2 ≤ 1023 ∧ f.nat 5 1 ≤ 31 then
          put { g with defects := g.defects.write (code - 15) { row := f.nat 1 2, col := f.nat 3 2, stamp := f.nat 5 1 } }
        else bad)

/-- CLEAR STAGING makes every field of the staging record absent, is answered OK, and changes no entry. -/
def Obligations.ClearStagingMakesEveryFieldAbsent : Prop :=
  ∀ (s : State) (f : Frame), s.part = .ready → f.payload = [] →
    exec (.clearStaging f) s = .next { s.answered f .ok [] with cat := { s.cat with staging :=
      { rows := none, cols := none, originX := none, originY := none, colStepX := none, colStepY := none,
        rowStepX := none, rowStepY := none, bias := none, gain := none, flat := none, saturation := none,
        weight := none, defectCount := none, defects := [] } } }

/-- LOAD STAGING copies the version its selector names into the staging record; where there is none, it is
refused and the staging record is unchanged. (Segment
id before selector: log 28.) -/
def Obligations.LoadStagingCopiesTheSelectedVersion : Prop :=
  ∀ (s : State) (f : Frame), s.part = .ready → f.payload.length = 3 →
    let seg := f.nat 0 2
    let sel := f.nat 2 1
    let run := exec (.loadStaging f) s
    (1023 < seg → run = .next (s.answered f .invalid [32])) ∧
    (seg ≤ 1023 → sel = 0 ∨ 4 < sel → run = .next (s.answered f .invalid [33])) ∧
    (seg ≤ 1023 → 1 ≤ sel → sel ≤ 4 →
      (s.cat.find seg = none → run = .next (s.answered f .unknownSegment [])) ∧
      ∀ i e, s.cat.find seg = some (i, e) →
        let named : Option Version :=
          if sel = 1 then e.installed.getLast?.map fun k => k.version
          else if sel = 2 then (match e.staged with
            | some (.version v) => some v
            | _ => none)
          else ((s.ctx (if sel = 3 then .A else .B)).resolve e).map fun k => k.version
        (named = none → run = .next (s.answered f .state [])) ∧
        ∀ v, named = some v → ∃ g : Staging, g.holds v ∧
          run = .next { s.answered f .ok [] with cat := { s.cat with staging := g } })

/-- STAGE ADD: EXISTS, FULL, or the first failing field; else the VACANT entry with the lowest index becomes
PENDING with the version of the staging record, and a walk that is past the segment is disturbed. -/
def Obligations.StageAddMakesTheLowestVacantEntryPending : Prop :=
  ∀ (s : State) (f : Frame), s.part = .ready → f.payload.length = 2 → s.cat.entries.wf →
    let seg := f.nat 0 2
    let run := exec (.stageAdd f) s
    (1023 < seg → run = .next (s.answered f .invalid [32])) ∧
    (seg ≤ 1023 → s.catalogueBusy = true → run = .next (s.answered f .busy [])) ∧
    (seg ≤ 1023 → s.catalogueBusy = false →
      ((∃ e ∈ s.cat.entries, e.2.seg = seg) → run = .next (s.answered f .exists_ [])) ∧
      ((∀ e ∈ s.cat.entries, e.2.seg ≠ seg) →
        ((∀ i < 256, s.cat.entries.read i ≠ none) → run = .next (s.answered f .full [])) ∧
        ∀ i < 256, s.cat.entries.read i = none → (∀ j < i, s.cat.entries.read j ≠ none) →
          (∀ code, s.cat.staging.version = .error code → run = .next (s.answered f .invalid [BitVec.ofNat 8 code])) ∧
          ∀ v, s.cat.staging.version = .ok v →
            run = .next { s.answered f .ok [] with cat := { s.cat with
              entries := s.cat.entries.write i
                { seg := seg, state := .pending, installed := [], staged := some (.version v), suspect := false,
                  broken := 0, marker := none, member := false }
              sign := s.cat.sign.after seg } }))

/-- Validation of the staging record (R11): the version staged holds the record's fields, FLAT with one
value per band and every placement below DEFECT COUNT inside the segment. Otherwise the lowest field code that fails
is named, by STAGE ADD and STAGE CHANGE in their INVALID reply. -/
def Obligations.ValidationAcceptsExactlyCompleteRecords : Prop :=
  (∀ (g : Staging) (v : Version), g.version = .ok v ↔
    (g.rows = some v.rows ∧ g.cols = some v.cols ∧ g.originX = some v.originX ∧ g.originY = some v.originY ∧
      g.colStepX = some v.colStepX ∧ g.colStepY = some v.colStepY ∧ g.rowStepX = some v.rowStepX ∧
      g.rowStepY = some v.rowStepY ∧ g.bias = some v.bias ∧ g.gain = some v.gain ∧ g.flat = some v.flat ∧
      g.saturation = some v.saturation ∧ g.weight = some v.weight ∧ g.defectCount = some v.defects.length) ∧
    v.flat.length = (v.cols + 63) / 64 ∧
    (∀ i < v.defects.length, g.defects.read i = v.defects[i]?) ∧
    (∀ p ∈ v.defects, p.row < v.rows ∧ p.col < v.cols)) ∧
  (∀ (g : Staging) (code : Nat), g.version = .error code ↔ g.fails code ∧ ∀ j < code, ¬g.fails j) ∧
  ∀ (s : State) (f : Frame) (code : Nat), s.part = .ready → f.payload.length = 2 → f.nat 0 2 ≤ 1023 →
    s.catalogueBusy = false → s.cat.staging.fails code → (∀ j < code, ¬s.cat.staging.fails j) →
    (s.cat.find (f.nat 0 2) = none → s.cat.entries.length < 256 → s.catalogueConsistent →
      exec (.stageAdd f) s = .next (s.answered f .invalid [BitVec.ofNat 8 code])) ∧
    ∀ i e, s.cat.find (f.nat 0 2) = some (i, e) → e.state = .pending →
      exec (.stageChange f) s = .next (s.answered f .invalid [BitVec.ofNat 8 code])

/-- STAGE CHANGE by the state of the entry: PENDING, or LIVE outside the batch without a staged retirement,
takes the version of the staging record; any other entry is refused STATE. -/
def Obligations.StageChangeFollowsTheEntryTable : Prop :=
  ∀ (s : State) (f : Frame), s.part = .ready → f.payload.length = 2 →
    let seg := f.nat 0 2
    let run := exec (.stageChange f) s
    (1023 < seg → run = .next (s.answered f .invalid [32])) ∧
    (seg ≤ 1023 → s.catalogueBusy = true → run = .next (s.answered f .busy [])) ∧
    (seg ≤ 1023 → s.catalogueBusy = false → s.cat.find seg = none →
      run = .next (s.answered f .unknownSegment [])) ∧
    ∀ i e, seg ≤ 1023 → s.catalogueBusy = false → s.cat.find seg = some (i, e) →
      (e.state = .retiring ∨ (e.state = .live ∧ (e.member = true ∨ e.staged = some .retirement)) →
        run = .next (s.answered f .state [])) ∧
      (e.state = .pending ∨ (e.state = .live ∧ e.member = false ∧ e.staged ≠ some .retirement) →
        (∀ code, s.cat.staging.version = .error code → run = .next (s.answered f .invalid [BitVec.ofNat 8 code])) ∧
        ∀ v, s.cat.staging.version = .ok v → run = .next { s.answered f .ok [] with
          cat := s.cat.changeEntry seg fun k => { k with staged := some (.version v) } })

/-- UNSTAGE by the state of the entry: PENDING becomes VACANT, LIVE loses its staged change, RETIRING is
refused STATE. -/
def Obligations.UnstageFollowsTheEntryTable : Prop :=
  ∀ (s : State) (f : Frame), s.part = .ready → f.payload.length = 2 →
    let seg := f.nat 0 2
    let run := exec (.unstage f) s
    (1023 < seg → run = .next (s.answered f .invalid [32])) ∧
    (seg ≤ 1023 → s.catalogueBusy = true → run = .next (s.answered f .busy [])) ∧
    (seg ≤ 1023 → s.catalogueBusy = false →
      (s.cat.find seg = none → run = .next (s.answered f .unknownSegment [])) ∧
      ∀ i e, s.cat.find seg = some (i, e) →
        (e.state = .pending → run = .next { s.answered f .ok [] with cat := { s.cat with
          entries := s.cat.entries.filter fun k => k.2.seg != seg
          sign := s.cat.sign.after seg } }) ∧
        (e.state = .live → run = .next { s.answered f .ok [] with
          cat := s.cat.changeEntry seg fun k => { k with staged := none } }) ∧
        (e.state = .retiring → run = .next (s.answered f .state [])))

/-- RETIRE of a PENDING entry in either mode makes it VACANT; AT_BOUNDARY places a staged retirement on a
LIVE entry outside the batch; IMMEDIATE makes a LIVE entry a member and opens a batch if none is open. -/
def Obligations.RetireFollowsTheEntryTables : Prop :=
  ∀ (s : State) (f : Frame), s.part = .ready → f.payload.length = 3 →
    let seg := f.nat 0 2
    let mode := f.nat 2 1
    let run := exec (.retire f) s
    (1023 < seg → run = .next (s.answered f .invalid [32])) ∧
    (seg ≤ 1023 → mode ≠ 1 → mode ≠ 2 → run = .next (s.answered f .invalid [37])) ∧
    (seg ≤ 1023 → mode = 1 ∨ mode = 2 → s.catalogueBusy = true → run = .next (s.answered f .busy [])) ∧
    (seg ≤ 1023 → mode = 1 ∨ mode = 2 → s.catalogueBusy = false →
      (s.cat.find seg = none → run = .next (s.answered f .unknownSegment [])) ∧
      ∀ i e, s.cat.find seg = some (i, e) →
        (e.state = .pending → run = .next { s.answered f .ok [] with cat := { s.cat with
          entries := s.cat.entries.filter fun k => k.2.seg != seg
          sign := s.cat.sign.after seg } }) ∧
        (e.state = .retiring → run = .next (s.answered f .state [])) ∧
        (mode = 1 → e.state = .live → e.member = true → run = .next (s.answered f .state [])) ∧
        (mode = 1 → e.state = .live → e.member = false → run = .next { s.answered f .ok [] with
          cat := s.cat.changeEntry seg fun k => { k with staged := some .retirement } }) ∧
        (mode = 2 → e.state = .live → e.member = true → run = .next (s.answered f .ok [])) ∧
        (mode = 2 → e.state = .live → e.member = false → run = .next { s.answered f .ok [] with
          cat := { s.cat.changeEntry seg (fun k => { k with member := true, staged := none }) with
            batch := if s.cat.batch = .closed then .window s.params.batchWindow else s.cat.batch } }))

/-- CLEAR SUSPECT clears the suspect flag and the broken count of the entry in any state; the attention
flags are unchanged. -/
def Obligations.ClearSuspectClearsFlagAndCount : Prop :=
  ∀ (s : State) (f : Frame), s.part = .ready → f.payload.length = 2 →
    let seg := f.nat 0 2
    (1023 < seg → exec (.clearSuspect f) s = .next (s.answered f .invalid [32])) ∧
    (seg ≤ 1023 → s.catalogueBusy = true → exec (.clearSuspect f) s = .next (s.answered f .busy [])) ∧
    (seg ≤ 1023 → s.catalogueBusy = false → s.cat.find seg = none →
      exec (.clearSuspect f) s = .next (s.answered f .unknownSegment [])) ∧
    ∀ i e, seg ≤ 1023 → s.catalogueBusy = false → s.cat.find seg = some (i, e) →
      exec (.clearSuspect f) s = .next { s.answered f .ok [] with
        cat := s.cat.changeEntry seg fun k => { k with suspect := false, broken := 0 } }

/-- COMMIT: BUSY beside another long request; DEFERRED, doing nothing, beside an open context or an opening;
EPOCH_LIMIT at the limit; else ACCEPTED, and it takes the long-request slot. -/
def Obligations.CommitIsAcceptedOnlyWithNoExposureOpen : Prop :=
  ∀ (s : State) (f : Frame), s.part = .ready → f.payload = [] →
    let opened := s.exc.ctxA.isOpen = true ∨ s.exc.ctxB.isOpen = true ∨ s.exc.opening ≠ none
    (s.cmd.long ≠ none → exec (.commit f) s = .next (s.answered f .busy [])) ∧
    (s.cmd.long = none → opened → exec (.commit f) s = .next (s.answered f .deferred [])) ∧
    (s.cmd.long = none → ¬opened → s.cat.epoch = 4294967295 →
      exec (.commit f) s = .next (s.answered f .epochLimit [])) ∧
    (s.cmd.long = none → ¬opened → s.cat.epoch < 4294967295 →
      exec (.commit f) s = .next { s.answered f .accepted [] with
        cmd := { (s.answered f .accepted []).cmd with long := some { kind := .commit, tag := f.tag } } })

/-- A COMMIT's boundary, beside whatever contexts are open: the epoch counter increments, the staged versions and
retirements take effect (R29, R30), and the COMMIT completes with that epoch and raises WORK_DONE; then a batch that
is due begins (BatchApplicationBeginsAtExpiry) and the latch is served (OpeningTakesAFreeContextAndTheNextNumber), in
that order: the model's choice (log 7, DEDUCED).
With no context open every entry keeps one version, its staged one if it had one, tagged with the new epoch, and none
is RETIRING or PENDING. A changed entry below the position of a running walk sets the disturbed mark. -/
def Obligations.CommitBoundaryInstallsStagedVersions : Prop :=
  ∀ (s : State) (tag : Byte), s.cmd.long = some { kind := .commit, tag := tag } → s.applying = false →
    s.exc.opening = none →
    let t : State := { s with
      cat := s.cat.boundaryFor [s.exc.ctxA, s.exc.ctxB]
      att := { s.att with flags := s.att.flags ||| 0b100000000#9 }
      cmd := { s.cmd with
        long := none
        last := some { kind := .commit, tag := tag, result := .ok, value := some (BitVec.ofNat 32 (s.cat.epoch + 1)) } } }
    exec .commitBoundaryComplete s = .next t.beginDueBatch.serveLatch ∧
    (s.cat.batch ≠ .due → s.exc.latch = { opening := false, closing := false } →
      exec .commitBoundaryComplete s = .next t) ∧
    (s.exc.ctxA.isOpen = false → s.exc.ctxB.isOpen = false → s.catalogueConsistent →
      (∀ e ∈ t.cat.entries, e.2.installed.length = 1 ∧ e.2.staged = none ∧ e.2.state = .live) ∧
      (∀ i e v, (i, e) ∈ s.cat.entries → e.staged = some (.version v) → e.state ≠ .retiring →
        (i, { e with state := .live, installed := [{ version := v, epoch := s.cat.epoch + 1 }], staged := none
                     suspect := false, broken := 0 }) ∈ t.cat.entries) ∧
      (∀ i e k, (i, e) ∈ s.cat.entries → e.staged = none → e.state = .live → e.installed.getLast? = some k →
        (i, { e with installed := e.installed.filter (· == k) }) ∈ t.cat.entries) ∧
      (t.cat.sign.disturbed = true ↔ s.cat.sign.disturbed = true ∨ (s.cat.sign.status = .running ∧
        ∃ e ∈ s.cat.entries, e.2.seg < s.cat.sign.position ∧ (e.2.staged ≠ none ∨ e.2.state = .retiring))))

/-- READ ENTRY captures the section asked for: the STATE section with the entry's identity, versions, staged
change, health, marker and, for each context, whether it resolves the newest or an older version (its widths and the
epoch tags without a list length: log 18), or fields of the selected version in the widths of R23. A segment
above 1023, a section, and for the last three sections a selector, are checked as for LOAD STAGING, and the version
must exist (the order of the checks: log 28). -/
def Obligations.ReadEntryCapturesTheSection : Prop :=
  ∀ (s : State) (f : Frame), s.part = .ready → f.payload.length = 4 →
    let seg := f.nat 0 2
    let sec := f.nat 2 1
    let sel := f.nat 3 1
    let run := exec (.readEntry f) s
    (1023 < seg → run = .next (s.answered f .invalid [32])) ∧
    (seg ≤ 1023 → sec = 0 ∨ 4 < sec → run = .next (s.answered f .invalid [34])) ∧
    (seg ≤ 1023 → 2 ≤ sec → sec ≤ 4 → sel = 0 ∨ 4 < sel → run = .next (s.answered f .invalid [33])) ∧
    (seg ≤ 1023 → sec = 1 ∨ (2 ≤ sec ∧ sec ≤ 4 ∧ 1 ≤ sel ∧ sel ≤ 4) →
      (s.cat.find seg = none → run = .next (s.answered f .unknownSegment [])) ∧
      ∀ i e, s.cat.find seg = some (i, e) →
        let position (x : Context) : List Byte := match x.resolve e with
          | none => [0xFF]
          | some k => if e.installed.getLast? = some k then [1] else [0]
        let named : Option Version :=
          if sel = 1 then e.installed.getLast?.map fun k => k.version
          else if sel = 2 then (match e.staged with
            | some (.version v) => some v
            | _ => none)
          else ((s.ctx (if sel = 3 then .A else .B)).resolve e).map fun k => k.version
        (sec = 1 → run = .next (s.captured f (bytesOf 2 i ++ bytesOf 2 e.seg ++ bytesOf 1 e.state.code
          ++ bytesOf 1 e.installed.length ++ (e.installed.flatMap fun k => bytesOf 4 k.epoch)
          ++ bytesOf 1 (match e.staged with
              | none => 0
              | some (.version _) => 1
              | some .retirement => 2)
          ++ flagByte e.suspect ++ bytesOf 1 e.broken
          ++ (match e.marker with
              | some m => bytesOf 1 m.port.val ++ bytesOf 1 m.buffer.val
              | none => [0xFF, 0xFF])
          ++ flagByte e.member ++ position s.exc.ctxA ++ position s.exc.ctxB))) ∧
        (sec ≠ 1 → named = none → run = .next (s.answered f .state [])) ∧
        ∀ v, named = some v →
          (sec = 2 → run = .next (s.captured f (bytesOf 2 v.rows ++ bytesOf 2 v.cols
            ++ bytesOf 4 v.originX ++ bytesOf 4 v.originY ++ bytesOfInt 4 v.colStepX
            ++ bytesOfInt 4 v.colStepY ++ bytesOfInt 4 v.rowStepX ++ bytesOfInt 4 v.rowStepY))) ∧
          (sec = 3 → run = .next (s.captured f (bytesOf 2 v.bias ++ bytesOf 2 v.gain
            ++ bytesOf 1 v.flat.length ++ v.flat.flatMap (bytesOf 2) ++ bytesOf 2 v.saturation
            ++ bytesOf 1 v.weight))) ∧
          (sec = 4 → run = .next (s.captured f (bytesOf 1 v.defects.length
            ++ v.defects.flatMap fun p => bytesOf 2 p.row ++ bytesOf 2 p.col ++ bytesOf 1 p.stamp))))

/-- A stamp in use by an open context cannot be rewritten; any other takes the new rows (not during an
installation or a batch application); READ STAMP returns a stamp's rows and whether it is in use. That the
rows are no list with a 2-byte length is the model's choice (R175 against R21; log 22, DESIGN CHOICE). -/
def Obligations.StampsInUseAreNotRewritten : Prop :=
  ∀ (s : State) (f : Frame), s.part = .ready →
    let code := f.nat 0 1
    let inUse : Prop := ∃ e ∈ s.cat.entries, ∃ c : Ctx, ∃ k, (s.ctx c).resolve e.2 = some k ∧
      ∃ p ∈ k.version.defects, p.stamp = code
    (f.payload.length = 9 →
      (31 < code → exec (.writeStamp f) s = .next (s.answered f .invalid [35])) ∧
      (code ≤ 31 → s.catalogueBusy = true → exec (.writeStamp f) s = .next (s.answered f .busy [])) ∧
      (code ≤ 31 → s.catalogueBusy = false → inUse → exec (.writeStamp f) s = .next (s.answered f .inUse [])) ∧
      (∀ k : Fin 32, k.val = code → s.catalogueBusy = false → ¬inUse →
        ∃ t, exec (.writeStamp f) s = .next t ∧
          t = { s.answered f .ok [] with cat := { s.cat with stamps := t.cat.stamps } } ∧
          t.cat.stamps[k].toList = f.payload.drop 1 ∧ ∀ j : Fin 32, j ≠ k → t.cat.stamps[j] = s.cat.stamps[j])) ∧
    (f.payload.length = 1 →
      (31 < code → exec (.readStamp f) s = .next (s.answered f .invalid [35])) ∧
      (∀ k : Fin 32, k.val = code → inUse →
        exec (.readStamp f) s = .next (s.captured f (s.cat.stamps[k].toList ++ [1]))) ∧
      (∀ k : Fin 32, k.val = code → ¬inUse →
        exec (.readStamp f) s = .next (s.captured f (s.cat.stamps[k].toList ++ [0]))))

/-- SIGN CATALOGUE begins the walk at segment id 0 and takes the long-request slot; READ SIGNATURE gives the
status, the value (0 for NONE and RUNNING) and the walk position (0 unless RUNNING). -/
def Obligations.SignatureWalkBeginsAtSegmentZero : Prop :=
  ∀ (s : State) (f : Frame), s.part = .ready → f.payload = [] →
    (s.cmd.long ≠ none → exec (.signCatalogue f) s = .next (s.answered f .busy [])) ∧
    (s.cmd.long = none → exec (.signCatalogue f) s = .next { s.answered f .accepted [] with
      cat := { s.cat with sign :=
        { status := .running, value := 0, position := 0, disturbed := false, crc := 0xFFFFFFFF#32 } }
      cmd := { (s.answered f .accepted []).cmd with long := some { kind := .signCatalogue, tag := f.tag } } }) ∧
    (s.cat.sign.status = .none → exec (.readSignature f) s = .next (s.captured f [0, 0, 0, 0, 0, 0, 0])) ∧
    (s.cat.sign.status = .running →
      exec (.readSignature f) s = .next (s.captured f ([1, 0, 0, 0, 0] ++ bytesOf 2 s.cat.sign.position))) ∧
    (s.cat.sign.status = .signed →
      exec (.readSignature f) s = .next (s.captured f ([2] ++ bytesOf 4 s.cat.sign.value.toNat ++ [0, 0]))) ∧
    (s.cat.sign.status = .disturbed →
      exec (.readSignature f) s = .next (s.captured f ([3] ++ bytesOf 4 s.cat.sign.value.toNat ++ [0, 0])))

/-- An entry step folds the non-vacant entry with the smallest id at or above the position; with none left,
the stamp step folds the stamps and the walk completes SIGNED or DISTURBED with its CRC-32. -/
def Obligations.SignatureStepsFoldEntriesThenStamps : Prop :=
  ∀ s : State, s.cat.sign.status = .running →
    (∀ e, e ∈ s.cat.entries → s.cat.sign.position ≤ e.2.seg →
      (∀ k ∈ s.cat.entries, s.cat.sign.position ≤ k.2.seg → k = e ∨ e.2.seg < k.2.seg) →
      exec .signatureEntryStep s = .next { s with cat := { s.cat with sign := { s.cat.sign with
        crc := crc32Bytes s.cat.sign.crc (bytesOf 2 e.2.seg ++ bytesOf 1 e.2.state.code ++ flagByte e.2.suspect
          ++ match e.2.installed.getLast? with
             | none => [0]
             | some k => [1] ++ k.version.geometryBytes ++ k.version.calibrationBytes ++ k.version.defectBytes)
        position := e.2.seg + 1 } } }) ∧
    (∀ tag, s.cmd.long = some { kind := .signCatalogue, tag := tag } →
      (∀ k ∈ s.cat.entries, k.2.seg < s.cat.sign.position) →
      let crc := crc32Bytes s.cat.sign.crc (s.cat.stamps.toList.flatMap fun m => m.toList)
      exec .signatureStampStep s = .next { s with
        cat := { s.cat with sign := { s.cat.sign with
          status := if s.cat.sign.disturbed = true then .disturbed else .signed
          value := ~~~crc, position := 1024, crc := crc } }
        att := { s.att with flags := s.att.flags ||| 0b100000000#9 }
        cmd := { s.cmd with long := none, last := some { kind := .signCatalogue, tag := tag
                                                         result := if s.cat.sign.disturbed = true then .disturbed else .signed
                                                         value := some (~~~crc) } } })

/-- The window's expiry begins the batch application, or it waits while an installation or a FLUSH is in
progress, at whose completion a due batch begins; its first step abandons the members' strips that are RECEIVING or
READY with verdict RETIRED, and only those. (What the commands of the batch are: log 6.) -/
def Obligations.BatchApplicationBeginsAtExpiry : Prop :=
  ∀ s : State,
    let free : Prop := s.exc.opening = none ∧ s.running .commit = false ∧ s.running .flush = false
    (∀ ms, s.cat.batch = .window ms →
      (free → exec .batchWindowExpiry s = .next { s with cat := { s.cat with batch := .applying false } }) ∧
      (¬free → exec .batchWindowExpiry s = .next { s with cat := { s.cat with batch := .due } })) ∧
    (s.cat.batch = .due → free → s.beginDueBatch = { s with cat := { s.cat with batch := .applying false } }) ∧
    (s.cat.batch ≠ .due ∨ ¬free → s.beginDueBatch = s) ∧
    (s.cat.batch = .applying false →
      exec .batchApplicationBegin s = .next (State.abandonedBy { s with cat := { s.cat with batch := .applying true } }
        (fun u => s.cat.isMember u.seg) .retired))

/-- The withdrawal, once no commit of a member is in progress: the members' progress records in open contexts and
their contributors in OPEN slots are withdrawn; the slots that completes, and that no row pins, are queued COMPLETE
in touch order; the natural-end checks are made; every member becomes VACANT, the batch closes, and WORK_DONE is
raised; the latch is served (OpeningTakesAFreeContextAndTheNextNumber). A watch request that waits may fall between two
of the slots (how many fall where: a free value, log 35). -/
def Obligations.BatchWithdrawalVacatesEveryMember : Prop :=
  ∀ s : State, s.cat.batch = .applying true → s.committingMember = false →
    let segs := s.cat.members
    (∃ t, exec .batchWithdrawal s = .next t ∧ t.cat.batch = .closed ∧ t.att.flags.getLsbD 8 = true ∧
      t.cat.epoch = s.cat.epoch ∧ t.cat.staging = s.cat.staging ∧ t.cat.stamps = s.cat.stamps ∧
      t.cmd.long = s.cmd.long ∧ t.cmd.last = s.cmd.last ∧ t.cmd.store = s.cmd.store ∧
      (s.requestWaits = false → t.cmd = s.cmd) ∧ t.ple = s.ple ∧ t.part = s.part ∧ t.ctb.memory = s.ctb.memory ∧
      (t.cat.entries.map fun e => (e.1, e.2.seg)) =
        ((s.cat.entries.filter fun e => !(segs.contains e.2.seg)).map fun e => (e.1, e.2.seg)) ∧
      ∀ c : Ctx, (s.ctx c).isOpen = true →
        (t.ctx c).progress = (s.ctx c).progress.map fun r =>
          if segs.contains r.seg then { r with withdrawn := true } else r) ∧
    (s.slotsConsistent →
      let x (c : Ctx) : Context := if (s.ctx c).isOpen = true then { s.ctx c with progress := (s.ctx c).progress.map fun r =>
          if r.seg ∈ segs then { r with withdrawn := true } else r }
        else s.ctx c
      let withdrawn : State := { s with
        exc := { s.exc with ctxA := x .A, ctxB := x .B }
        ctb := { s.ctb with slots := s.ctb.slots.map fun e => (e.1, if e.2.state = .opened then
            { e.2 with contributors := e.2.contributors.map fun q =>
              if q.seg ∈ segs then { q with state := .withdrawn } else q }
          else e.2) } }
      let complete := withdrawn.ctb.touched fun e => e.found && (e.contributors.any fun q => decide (q.seg ∈ segs)) &&
        !(e.pinned && s.ple.commit.any fun k => k.phase != .advance)
      ∃ taken : Nat → Nat,
      let u := ((withdrawn.givenUp taken complete .complete).naturallyEnded .A).naturallyEnded .B
      let t : State := { u with
        cat := { u.cat with
          entries := u.cat.entries.filter fun e => decide (e.2.seg ∉ segs)
          batch := .closed
          sign := s.cat.sign.afterAll segs }
        att := { u.att with flags := u.att.flags ||| 0b100000000#9 } }
      exec .batchWithdrawal s = .next t.serveLatch.takeHead)

/-! ### Exposure control (chapter 3) -/

/-- An opening edge with nothing in progress: SHUTTER_FAULT beside an EXPOSING context, OVERRUN with no FREE
context or at the epoch limit; else the opening begins with context A if it is FREE, and the number of R49.
OPEN EXPOSURE does the same and answers. While an operation is in progress the edge is latched and the request
is BUSY. Beside a latched edge the edge is discarded with OVERRUN and the request is BUSY. With SHUTTER_USE 0, or while
the part is STARTING, edges are ignored. The latch is served when no operation is in progress: each latched edge acts as
one that arrives then, the opening edge first, and the closing edge once no opening is being performed. -/
def Obligations.OpeningTakesAFreeContextAndTheNextNumber : Prop :=
  (∀ s : State, s.params.shutterUse = false ∨ s.part = .starting →
    exec .openingEdge s = .next s ∧ exec .closingEdge s = .next s) ∧
  (∀ (s : State) (f : Frame), s.part = .ready → f.payload = [] →
    s.exc.latch = { opening := false, closing := false } →
    let c : Ctx := if s.exc.ctxA.state = .free then .A else .B
    let other := s.ctx (otherCtx c)
    let n := if other.state ≠ .free ∧ other.number = s.params.nextExposure then (s.params.nextExposure + 1) % 65536
      else s.params.nextExposure
    let exposing := s.exc.ctxA.state = .exposing ∨ s.exc.ctxB.state = .exposing
    let full := s.exc.ctxA.state ≠ .free ∧ s.exc.ctxB.state ≠ .free
    let begun (s : State) : State := { s with
      exc := { s.exc with opening := some { ctx := c, number := n } }
      params := { s.params with nextExposure := (n + 1) % 65536 } }
    let raised (s : State) (flag : BitVec 9) : State := { s with att := { s.att with flags := s.att.flags ||| flag } }
    (s.openingBlocked = true →
      (s.params.shutterUse = true →
        exec .openingEdge s = .next { s with exc := { s.exc with latch := { opening := true, closing := false } } }) ∧
      exec (.openExposure f) s = .next (s.answered f .busy [])) ∧
    (s.openingBlocked = false →
      (exposing → (s.params.shutterUse = true → exec .openingEdge s = .next (raised s 0b100#9)) ∧
        exec (.openExposure f) s = .next (s.answered f .state [])) ∧
      (¬exposing → full → (s.params.shutterUse = true → exec .openingEdge s = .next (raised s 0b10#9)) ∧
        exec (.openExposure f) s = .next (raised (s.answered f .overrun []) 0b10#9)) ∧
      (¬exposing → ¬full → 4294967295 ≤ s.cat.epoch →
        (s.params.shutterUse = true → exec .openingEdge s = .next (raised s 0b10#9)) ∧
        exec (.openExposure f) s = .next (raised (s.answered f .epochLimit []) 0b10#9)) ∧
      (¬exposing → ¬full → s.cat.epoch < 4294967295 →
        (s.params.shutterUse = true → exec .openingEdge s = .next (begun s)) ∧
        exec (.openExposure f) s = .next (begun (s.answered f .ok
          (bytesOf 1 (ctxCode c) ++ bytesOf 2 n ++ bytesOf 4 (s.cat.epoch + 1))))))) ∧
  (∀ (s : State) (f : Frame), s.part = .ready → f.payload = [] → s.exc.latch.opening = true ∨ s.exc.latch.closing = true →
    (s.params.shutterUse = true →
      exec .openingEdge s = .next { s with att := { s.att with flags := s.att.flags ||| 0b10#9 } }) ∧
    exec (.openExposure f) s = .next (s.answered f .busy [])) ∧
  ∀ s : State,
    let latched (s : State) (opening closing : Bool) : State :=
      { s with exc := { s.exc with latch := { opening := opening, closing := closing } } }
    let l := s.exc.latch
    (s.openingBlocked = true ∨ (l.opening = false ∧ l.closing = false) → s.serveLatch = s) ∧
    (s.part = .ready → s.params.shutterUse = true → s.openingBlocked = false →
      (l.opening = true → l.closing = false → exec .openingEdge (latched s false false) = .next s.serveLatch) ∧
      (l.opening = false → l.closing = true → exec .closingEdge (latched s false false) = .next s.serveLatch) ∧
      (l.opening = true → l.closing = true → ∃ u, exec .openingEdge (latched s false false) = .next u ∧
        (u.exc.opening ≠ none → s.serveLatch = latched u false true) ∧
        (u.exc.opening = none → exec .closingEdge u = .next s.serveLatch)))

/-- The completion of an opening, beside whatever other context is open: the boundary is performed (R27 to R30), and
the context takes the new epoch, enters EXPOSING with the LIVE segments as its expected set, ascending, each with next
row 0, and its summary starts at 0; then a batch that is due begins (BatchApplicationBeginsAtExpiry) and the latch is
served (OpeningTakesAFreeContextAndTheNextNumber), in that order: the model's choice (log 7, DEDUCED). The other context and every other block are as they were. -/
def Obligations.OpeningCompletesInAnExposingContext : Prop :=
  ∀ (s : State) (o : Opening), s.exc.opening = some o →
    let cat := s.cat.boundaryFor [s.exc.ctxA, s.exc.ctxB]
    let live := (cat.entries.filter fun e => e.2.state == .live).map fun e => e.2.seg
    (∀ e ∈ cat.entries, e.2.staged = none) ∧
    ∃ ids : List Nat, ids.Pairwise (· ≤ ·) ∧ ids.Perm live ∧
      let x : Context :=
        { state := .exposing, number := o.number, epoch := s.cat.epoch + 1
          progress := ids.map fun seg => { seg := seg, next := 0, withdrawn := false }
          timer := none, endCause := none, summary := Summary.start }
      let t : State := { s with cat := cat, exc := { s.exc.setCtx o.ctx x with opening := none } }
      exec .openingComplete s = .next t.beginDueBatch.serveLatch ∧
      (s.cat.batch ≠ .due → s.exc.latch = { opening := false, closing := false } → exec .openingComplete s = .next t)

/-- A closing edge, or CLOSE SHUTTER, with no opening performed or latched: the EXPOSING context enters
GATHERING and its timer starts with GATHER_LIMIT (not under a FLUSH: log 9); if every segment it holds is finished it
ends naturally at once. With no EXPOSING context the edge raises SHUTTER_FAULT, and the request is refused STATE; the
request is taken so also beside a latched closing edge, which stays latched. Beside
a latched or performed opening the edge is latched, and beside a latched closing edge it is discarded with
SHUTTER_FAULT (R51), also while the opening ahead of it is performed: the model's choice (log 7, DEDUCED). The request is
BUSY beside a latched or performed opening, and during a FLUSH. -/
def Obligations.ClosingStartsGathering : Prop :=
  ∀ (s : State) (f : Frame), s.part = .ready → f.payload = [] →
    let l := s.exc.latch
    let fault : State := { s with att := { s.att with flags := s.att.flags ||| 0b100#9 } }
    (s.params.shutterUse = true → l.closing = true → exec .closingEdge s = .next fault) ∧
    (s.params.shutterUse = true → l.closing = false → l.opening = true ∨ s.exc.opening ≠ none →
      exec .closingEdge s = .next { s with exc := { s.exc with latch := { l with closing := true } } }) ∧
    (l.opening = true ∨ s.exc.opening ≠ none ∨ s.running .flush = true →
      exec (.closeShutter f) s = .next (s.answered f .busy [])) ∧
    (s.exc.opening = none → l.opening = false →
      (s.exc.ctxA.state ≠ .exposing → s.exc.ctxB.state ≠ .exposing →
        (s.params.shutterUse = true → l.closing = false → exec .closingEdge s = .next fault) ∧
        (s.running .flush = false → exec (.closeShutter f) s = .next (s.answered f .state []))) ∧
      ∀ c : Ctx, (s.ctx c).state = .exposing → (s.ctx (otherCtx c)).state ≠ .exposing →
        let x : Context :=
          { s.ctx c with state := .gathering
                         timer := if s.exc.flushing = true then none else some s.params.gatherLimit }
        let closed (s : State) : State := State.naturallyEnded { s with exc := s.exc.setCtx c x } c
        (s.params.shutterUse = true → l.closing = false → exec .closingEdge s = .next (closed s)) ∧
        (s.running .flush = false → exec (.closeShutter f) s =
          .next (closed (s.answered f .ok (bytesOf 1 (ctxCode c) ++ bytesOf 2 (s.ctx c).number)))))

/-- END EXPOSURE by the state of the context: EXPOSING goes to CLOSING with its trailer queued, which an IDLE port
takes (PauseHoldsAndFreesThePort); GATHERING begins its end, abandoning its RECEIVING and READY strips LATE; an end
already begun is kept; any other state is refused STATE. RELEASE EXPOSURE makes a HELD context FREE. -/
def Obligations.EndAndReleaseFollowTheContextState : Prop :=
  ∀ (s : State) (f : Frame), s.part = .ready → f.payload.length = 1 →
    (1 < f.nat 0 1 → exec (.endExposure f) s = .next (s.answered f .invalid [38]) ∧
      exec (.releaseExposure f) s = .next (s.answered f .invalid [38])) ∧
    ∀ c : Ctx, f.nat 0 1 = ctxCode c →
      let x := s.ctx c
      let ok := s.answered f .ok []
      (s.running .flush = true → exec (.endExposure f) s = .next (s.answered f .busy []) ∧
        exec (.releaseExposure f) s = .next (s.answered f .busy [])) ∧
      (s.running .flush = false →
        (x.state = .exposing →
          exec (.endExposure f) s = .next (State.takeHead { ok with
            exc := s.exc.setCtx c { x with state := .closing, endCause := some .ended, timer := none }
            ctb := { s.ctb with queue := s.ctb.queue ++ [.trailer c] } })) ∧
        (x.state = .gathering → x.endCause = none →
          exec (.endExposure f) s = .next (State.abandonedBy { ok with
            exc := s.exc.setCtx c { x with endCause := some .ended, timer := none } } (fun u => u.ctx == c) .late)) ∧
        (x.state = .gathering → x.endCause ≠ none → exec (.endExposure f) s = .next ok) ∧
        (x.state = .free ∨ x.state = .closing ∨ x.state = .held →
          exec (.endExposure f) s = .next (s.answered f .state [])) ∧
        (x.state = .held → exec (.releaseExposure f) s = .next { ok with exc := s.exc.setCtx c Context.free }) ∧
        (x.state ≠ .held → exec (.releaseExposure f) s = .next (s.answered f .state [])))

/-- READ SUMMARY captures the summary of a context that is not FREE: number, epoch, end cause, the counts and
the two lists in the order of R63, then the state and whether the end has begun (the tail: log 21). A summary that is
fixed gives the lists it was fixed with; another gives those of the progress table; each is ascending. A context code
above 1 is INVALID 38. -/
def Obligations.ReadSummaryCapturesTheCounts : Prop :=
  ∀ (s : State) (f : Frame), s.part = .ready → f.payload.length = 1 →
    (1 < f.nat 0 1 → exec (.readSummary f) s = .next (s.answered f .invalid [38])) ∧
    ∀ c : Ctx, f.nat 0 1 = ctxCode c →
    let x := s.ctx c
    let m := x.summary
    (x.state = .free → exec (.readSummary f) s = .next (s.answered f .state [])) ∧
    (x.state ≠ .free → ∃ endBegun, exec (.readSummary f) s = .next (s.captured f
      (bytesOf 2 x.number ++ bytesOf 4 x.epoch
        ++ bytesOf 1 (match x.endCause with
            | none => 255
            | some .natural => 1
            | some .limit => 2
            | some .ended => 3)
        ++ bytesOf 4 x.progress.length ++ bytesOf 4 m.finished
        ++ bytesOf 2 (s.lists c).missing.length ++ (s.lists c).missing.flatMap (bytesOf 2)
        ++ bytesOf 2 (s.lists c).withdrawn.length ++ (s.lists c).withdrawn.flatMap (bytesOf 2)
        ++ bytesOf 4 m.accepted ++ m.refusals.toList.flatMap (bytesOf 4)
        ++ bytesOf 4 m.pixels ++ bytesOf 4 m.defect ++ bytesOf 4 m.saturated ++ bytesOf 4 m.offGrid
        ++ bytesOf 4 m.crowded ++ bytesOf 4 m.cellsComplete ++ bytesOf 4 m.cellsPartial ++ bytesOf 4 m.cellsForced
        ++ bytesOf 4 m.damaged ++ bytesOf 4 m.watchHits ++ bytesOf 1 x.state.code ++ [endBegun])) ∧
      (x.state = .exposing ∨ x.state = .gathering → endBegun = if x.endCause = none then 0 else 1)) ∧
    (m.fixed = none → ∀ g,
      (g ∈ (s.lists c).withdrawn ↔ ∃ r ∈ x.progress, r.seg = g ∧ r.withdrawn = true) ∧
      (g ∈ (s.lists c).missing ↔ ∃ r ∈ x.progress, r.seg = g ∧ r.withdrawn = false ∧ s.finished c r = false)) ∧
    (∀ l, m.fixed = some l → s.lists c = l) ∧
    (x.consistent → (s.lists c).missing.Pairwise (· ≤ ·) ∧ (s.lists c).withdrawn.Pairwise (· ≤ ·))

/-- FLUSH is ACCEPTED and takes the long-request slot. Its first step, with no installation and no batch
application in progress, stops both gather timers, gives a waiting row an attempt under the FLUSH conditions, abandons
every RECEIVING or READY buffer FLUSHED, takes every slot out of the emission queue, trailers staying, and frees those
slots, each of them giving the waiting row an attempt (what one does: CellOpeningClearsItsMemory). The order of these,
the slots freed from the head of the queue, is the model's choice (log 8). -/
def Obligations.FlushEmptiesBuffersAndQueue : Prop :=
  ∀ (s : State) (f : Frame),
    (s.part = .ready → f.payload = [] → s.cmd.long = none →
      exec (.flush f) s = .next { s.answered f .accepted [] with
        cmd := { (s.answered f .accepted []).cmd with long := some { kind := .flush, tag := f.tag } } }) ∧
    (s.part = .ready → f.payload = [] → s.cmd.long ≠ none → exec (.flush f) s = .next (s.answered f .busy [])) ∧
    (s.running .flush = true → s.exc.flushing = false → s.exc.opening = none → s.applying = false →
      let stopped : State := { s with exc := { s.exc with
        flushing := true
        ctxA := { s.exc.ctxA with timer := none }
        ctxB := { s.exc.ctxB with timer := none } } }
      let a := stopped.abandonedBy (fun _ => true) .flushed
      let trailers := s.ctb.queue.filter fun i => match i with
        | .slot _ => false
        | .trailer _ => true
      (∃ t, exec .flushFirstStep s = .next t ∧
        t = { a with ctb := t.ctb, ple := t.ple } ∧ t.ctb.queue = trailers ∧ t.ctb.memory = s.ctb.memory) ∧
      (let b := stopped.attempt.abandonedBy (fun _ => true) .flushed
      let freed (u : State) (n : Nat) : State := State.attempt { u with
        ctb := { u.ctb with slots := u.ctb.slots.filter fun e => e.1 != n }
        ple := { u.ple with commit := u.ple.commit.map fun k => { k with victims := k.victims.filter fun i => i != n } } }
      exec .flushFirstStep s =
        .next ((queuedSlots s.ctb.queue).foldl freed { b with ctb := { b.ctb with queue := trailers } })) ∧
      (s.ple.commit = none → exec .flushFirstStep s = .next { a with ctb := { s.ctb with
        queue := trailers
        slots := s.ctb.slots.filter fun e => decide (.slot e.1 ∉ s.ctb.queue) } }))

/-- The completion of a FLUSH with no commit and no end of gathering in progress: every slot is FREE but an EMITTING
one that is not the port's own, which no run has; queue, touch order and part numbers are empty; both contexts are FREE;
a cut emission leaves the port ABORTING, and errors that a cut preparation had found stand (which: a free value, log 29);
no entry stays RETIRING; the FLUSH's result is kept and WORK_DONE is raised; then, in the order R68 gives, a batch that is
due begins (BatchApplicationBeginsAtExpiry) and the latch is served (OpeningTakesAFreeContextAndTheNextNumber). -/
def Obligations.FlushCompleteFreesEveryContext : Prop :=
  ∀ (s : State) (tag : Byte), s.cmd.long = some { kind := .flush, tag := tag } → s.exc.flushing = true →
    s.ple.commit = none → s.exc.ctxA.ending = false → s.exc.ctxB.ending = false →
    let done (u : State) : State := { u with
      cat := u.cat.releasedFor []
      exc := { u.exc with ctxA := Context.free, ctxB := Context.free, flushing := false }
      ctb := { u.ctb with
        slots := u.ctb.slots.filter fun e => e.2.state == .emitting && u.cop.state.slot? != some e.1
        touch := [], queue := [], partsA := [], partsB := [] }
      cop := { u.cop with state := match u.cop.state with
        | .preparing _ | .sendingCell _ _ _ _ _ | .sendingTrailer _ _ => .aborting u.cop.pause
        | .reset => .reset
        | .idle => .idle
        | .aborting h => .aborting h }
      att := { u.att with flags := u.att.flags ||| 0b100000000#9 }
      cmd := { u.cmd with long := none, last := some { kind := .flush, tag := tag, result := .ok, value := none } } }
    let follows (t : State) : Prop := exec .flushComplete s = .next t.beginDueBatch.serveLatch ∧
      (s.cat.batch ≠ .due → s.exc.latch = { opening := false, closing := false } → exec .flushComplete s = .next t)
    ((∀ n, s.cop.state ≠ .preparing n) → follows (done s)) ∧
    (∀ n, s.cop.state = .preparing n → ∃ found : List (Nat × MemoryError), errorsWellFormed found = true ∧
      follows (done { s.errorsBy n found with cmd := { s.cmd with free := s.cmd.free + 1 } })) ∧
    (∀ e ∈ (done s).cat.entries, e.2.state ≠ .retiring) ∧
    (∀ i e, (i, e) ∈ s.cat.entries → e.state ≠ .retiring →
      (i, { e with installed := e.installed.filter fun k => e.installed.getLast? == some k }) ∈ (done s).cat.entries)

/-- The expiry of a running gather timer ends gathering with cause LIMIT: the timer stops and the context's
RECEIVING and READY strips are abandoned LATE. A stopped timer does not expire. (Log 2.) -/
def Obligations.GatherTimerExpiryEndsGathering : Prop :=
  ∀ (s : State) (c : Ctx),
    let x := s.ctx c
    (x.timer = none → exec (.gatherTimerExpiry c) s = .next s) ∧
    (x.timer ≠ none → x.state = .gathering → x.endCause = none →
      exec (.gatherTimerExpiry c) s = .next (State.abandonedBy
        { s with exc := s.exc.setCtx c { x with endCause := some .limit, timer := none } } (fun u => u.ctx == c) .late))

/-- The forced close, once no commit of the ending context is in progress: its OPEN slots are queued PARTIAL
in touch order (under a FLUSH dropped), matched against the cell-kind watches as they are queued; its trailer follows
them, and it enters CLOSING; an IDLE port takes the head (PauseHoldsAndFreesThePort). Other slots keep their state. A
watch request that waits may fall between two of the slots (how many fall where: a free value, log 35). -/
def Obligations.ForcedCloseQueuesCellsThenTrailer : Prop :=
  ∀ (s : State) (c : Ctx), (s.ctx c).state = .gathering → (s.ctx c).endCause ≠ none → s.committingFor c = false →
    s.slotsConsistent →
    ∃ taken : Nat → Nat,
    let u := s.givenUp taken (s.ctb.touched fun e => e.state == .opened && e.ctx == c) .partly
    exec (.forcedClose c) s = .next (State.takeHead { u with
      exc := u.exc.setCtx c { u.ctx c with state := .closing, timer := none }
      ctb := { u.ctb with queue := u.ctb.queue ++ [.trailer c] } })

/-! ### Strip ports (chapter 4) -/

/-- Word sync found brings a DOWN port of LINK_ENABLE UP, awaiting a header; word sync lost brings an UP port
DOWN: its RECEIVING and READY buffers become IDLE, unmarked, and are counted, its verdicts are discarded, and LINK_FAULT
is raised. The end of a verdict's sending removes the oldest verdict of an UP port's queue; its words are those of R178.
(`backChannel` is the model's own field, log 24; that a verdict's end on a DOWN port or an empty queue changes nothing
is the model's choice, log 3.) -/
def Obligations.WordSyncAndVerdictsSent : Prop :=
  (∀ (s : State) (p : Fin 4),
    (s.ports[p].up = false →
      let q : Port := if s.params.linkEnable.getLsbD p.val = true then
          { s.ports[p] with sync := true, up := true, receive := .awaiting }
        else { s.ports[p] with sync := true }
      exec (.wordSyncFound p) s = .next { s with ports := s.ports.set p q } ∧
      exec (.wordSyncLost p) s = .next { s with ports := s.ports.set p { s.ports[p] with sync := false } }) ∧
    (s.ports[p].up = true →
      exec (.wordSyncFound p) s = .next { s with ports := s.ports.set p { s.ports[p] with sync := true } } ∧
      exec (.wordSyncLost p) s = .next { s with
        ports := s.ports.set p { s.ports[p].wentDown with sync := false }
        cat := s.cat.unmarked fun m => m.port == p && (s.ports[p].buffers[m.buffer].abandonable?).isSome
        att := { s.att with flags := s.att.flags ||| 0b1000000#9 } })) ∧
  ∀ (s : State) (p : Fin 4),
    (∀ v rest, s.ports[p].up = true → s.ports[p].verdicts = v :: rest →
      exec (.verdictSent p) s = .next { s with ports := s.ports.set p { s.ports[p] with
        verdicts := rest
        backChannel := [wordOfHalves v.seg v.first, BitVec.ofNat 32 (v.code.toNat * 16777216 + v.next % 65536)] } }) ∧
    (s.ports[p].up = false ∨ s.ports[p].verdicts = [] → exec (.verdictSent p) s = .next s)

/-- A header that passes the checks of R77: a strip still being received is first ended BROKEN, its row count short
(R76), and the header takes that buffer, or without one the lower-numbered IDLE buffer: RECEIVING, no rows, the
version's column count, the CRC over the header; the entry takes the in-flight marker; no verdict is sent for it. -/
def Obligations.GoodHeaderTakesTheLowerIdleBuffer : Prop :=
  ∀ (s0 : State) (p : Fin 4) (w0 w1 : Word) (ended : Option (Fin 2 × Strip)) (c : Ctx) (v : Version) (r : Progress)
    (i : Nat) (e : Entry) (b : Fin 2),
    s0.ports[p].up = true → s0.ports[p].isReceiving ended →
    let s := s0.headerStart p ended
    let exposure := highHalf w0
    let seg := lowHalf w0
    let first := highHalf w1
    let count := lowHalf w1
    let q := s.ports[p]
    s.exc.flushing = false →
    (∀ u, ended = some u → b = u.1) →
    (ended = none → q.buffers[b] = .idle ∧ (b = 1 → q.buffers[(0 : Fin 2)] ≠ .idle)) →
    s.exc.carrying exposure = some c → (s.ctx c).state = .gathering → (s.ctx c).endCause = none → seg ≤ 1023 →
    s.cat.find seg = some (i, e) → e.member = false → e.state ≠ .retiring →
    (s.ctx c).record seg = some r → r.withdrawn = false → e.marker = none → s.resolved c seg = some v →
    r.next = first → 1 ≤ count → count ≤ 16 → first + count ≤ v.rows →
    exec (.stripHeader p [w0, w1]) s0 = .next { s with
      ports := s.ports.set p { q with
        receive := .receiving
        headersSeen := min 4294967295 (q.headersSeen + 1)
        older := if q.buffers[otherBuffer b] = .idle then none else some (otherBuffer b)
        buffers := q.buffers.set b (.receiving { exposure := exposure, seg := seg, first := first, count := count
                                                 ctx := c, cols := v.cols, rows := []
                                                 crc := crc32Words 0xFFFFFFFF#32 [w0, w1] }) }
      cat := s.cat.changeEntry seg fun k => { k with marker := some { port := p, buffer := b } } }

/-- Which verdict a refused header gets, in the order of R77 and after a strip still being received was ended BROKEN
(R76), and what a refusal is: the verdict queued if the queue has room, DISCARDING, the refusal counted in the summary
of the context that carries the number (R64), and the counter of UNKNOWN_EXPOSURE; a DOWN port takes no header. A
malformed header, of other than 2 words, is neither checked nor counted (R178): it breaks a strip being received, and
the port then discards; without one it is discarded. -/
def Obligations.HeaderChecksFailInOrder : Prop :=
  (∀ (s : State) (p : Fin 4) (words : List Word), words.length ≠ 2 →
    let q := s.ports[p]
    let run := exec (.stripHeader p words) s
    (q.up = false ∨ (∀ b : Fin 2, q.buffers[b].isReceiving = false) → run = .next s) ∧
    ∀ (b : Fin 2) (u : Strip), q.up = true → q.buffers[b] = .receiving u →
      (b = 1 → q.buffers[(0 : Fin 2)].isReceiving = false) →
      run = .next ((s.brokenBy p b u .broken).receiveIn p .discarding)) ∧
  ∀ (s0 : State) (p : Fin 4) (w0 w1 : Word),
    (s0.ports[p].up = false → exec (.stripHeader p [w0, w1]) s0 = .next s0) ∧
    ∀ ended : Option (Fin 2 × Strip), s0.ports[p].up = true → s0.ports[p].isReceiving ended →
      let s := s0.headerStart p ended
      let exposure := highHalf w0
      let seg := lowHalf w0
      let q := s.ports[p]
      let refused (code : VerdictCode) : Prop := exec (.stripHeader p [w0, w1]) s0 = .next { s with
        ports := s.ports.set p { q with
          headersSeen := min 4294967295 (q.headersSeen + 1), receive := .discarding
          verdicts := if q.verdicts.length < 8
            then q.verdicts ++ [{ seg := seg, first := highHalf w1, code := code, next := s.exc.nextExpected exposure seg }]
            else q.verdicts
          refusedUnknown := if code = .unknownExposure then min 4294967295 (q.refusedUnknown + 1) else q.refusedUnknown }
        exc := s.exc.refusalsCounted [exposure] code }
      (s.exc.flushing = true → refused .flushed) ∧
      (s.exc.flushing = false →
        (q.buffers[(0 : Fin 2)] ≠ .idle → q.buffers[(1 : Fin 2)] ≠ .idle → refused .held) ∧
        ((∃ b : Fin 2, q.buffers[b] = .idle) →
          (s.exc.carrying exposure = none → refused .unknownExposure) ∧
          ∀ c, s.exc.carrying exposure = some c →
            let x := s.ctx c
            (x.state = .exposing → refused .notReady) ∧
            (x.state = .closing ∨ x.state = .held ∨ (x.state = .gathering ∧ x.endCause ≠ none) → refused .late) ∧
            (x.state = .gathering → x.endCause = none →
              (1023 < seg ∨ s.cat.find seg = none → refused .unknownSegment) ∧
              ∀ i e, seg ≤ 1023 → s.cat.find seg = some (i, e) →
                (e.member = true ∨ e.state = .retiring → refused .retired) ∧
                (e.member = false → e.state ≠ .retiring →
                  (x.record seg = none → refused .notExpected) ∧
                  ∀ r, x.record seg = some r →
                    (r.withdrawn = true → refused .retired) ∧
                    (r.withdrawn = false → e.marker ≠ none → refused .segmentBusy) ∧
                    ∀ v, r.withdrawn = false → e.marker = none → s.resolved c seg = some v →
                      (highHalf w1 < r.next → refused .duplicate) ∧
                      (r.next < highHalf w1 ∨ (r.next = highHalf w1 ∧
                        (lowHalf w1 = 0 ∨ 16 < lowHalf w1 ∨ v.rows < highHalf w1 + lowHalf w1)) → refused .gap)))))

/-- A ROW of a strip being received: one with the right pixel count is appended while the strip lacks rows,
and the CRC runs over all its words; any other breaks the strip: its buffer becomes IDLE, its verdict is BROKEN, its
refusal is counted, its marker is cleared, the entry's broken count goes up, and the port discards. Without a strip
being received it is discarded. -/
def Obligations.RowsAreAppendedOrBreakTheStrip : Prop :=
  ∀ (s : State) (p : Fin 4) (words : List Word),
    let q := s.ports[p]
    (q.up = false ∨ (∀ b : Fin 2, q.buffers[b].isReceiving = false) → exec (.row p words) s = .next s) ∧
    ∀ (b : Fin 2) (u : Strip), q.up = true → q.buffers[b] = .receiving u →
      (b = 1 → q.buffers[(0 : Fin 2)].isReceiving = false) →
      (∀ pixels, rowPixels words = some pixels → pixels.length = u.cols → u.rows.length < u.count →
        exec (.row p words) s = .next { s with ports := s.ports.set p { q with
          buffers := q.buffers.set b (.receiving { u with rows := u.rows ++ [pixels]
                                                          crc := crc32Words u.crc words }) } }) ∧
      ((∀ pixels, rowPixels words = some pixels → pixels.length ≠ u.cols ∨ u.count ≤ u.rows.length) →
        exec (.row p words) s = .next ((s.brokenBy p b u .broken).receiveIn p .discarding))

/-- A STRIP END with the right CRC after all rows makes the strip READY; fewer rows end it BROKEN and a wrong CRC ends
it CRC, each with its verdict, refusal and broken-strip report; the port then awaits a header, as it does after a STRIP
END with no strip being received (R73). An IDLE engine then takes a READY strip, if there is one: ports in cyclic order
after the last served, of two READY strips the older. A malformed STRIP END, of other than 1 word, breaks a strip being
received, and the port then discards (R178); without one it is discarded, and the port stays as it is (log 26,
DEDUCED). A DOWN port takes none. -/
def Obligations.StripEndMakesTheStripReady : Prop :=
  (∀ (s : State) (p : Fin 4) (words : List Word),
    let q := s.ports[p]
    let idle : Prop := ∀ b : Fin 2, q.buffers[b].isReceiving = false
    let run := exec (.stripEnd p words) s
    (q.up = false → run = .next s) ∧
    (q.up = true → idle → words.length = 1 → run = .next (s.receiveIn p .awaiting).arbitrate) ∧
    (idle → words.length ≠ 1 → run = .next s) ∧
    ∀ (b : Fin 2) (u : Strip), q.up = true → q.buffers[b] = .receiving u →
      (b = 1 → q.buffers[(0 : Fin 2)].isReceiving = false) → words.length ≠ 1 →
      run = .next ((s.brokenBy p b u .broken).receiveIn p .discarding)) ∧
  (∀ (s : State) (p : Fin 4) (w : Word) (b : Fin 2) (u : Strip),
    let q := s.ports[p]
    q.up = true → q.buffers[b] = .receiving u → (b = 1 → q.buffers[(0 : Fin 2)].isReceiving = false) →
    (u.count ≤ u.rows.length → w = ~~~u.crc →
      exec (.stripEnd p [w]) s = .next ((s.withBuffer p b (.ready u)).receiveIn p .awaiting).arbitrate) ∧
    (u.rows.length < u.count →
      exec (.stripEnd p [w]) s = .next ((s.brokenBy p b u .broken).receiveIn p .awaiting).arbitrate) ∧
    (u.count ≤ u.rows.length → w ≠ ~~~u.crc →
      exec (.stripEnd p [w]) s = .next ((s.brokenBy p b u .crc).receiveIn p .awaiting).arbitrate)) ∧
  ∀ s : State,
    (s.ple.commit ≠ none ∨ (∀ (p : Fin 4) (b : Fin 2), s.ports[p].buffers[b].ready? = none) → s.arbitrate = s) ∧
    ∀ (j : Fin 4) (b : Fin 2) (u : Strip), s.ple.commit = none →
      let port (i : Fin 4) : Fin 4 := s.ple.lastServed + 1 + i
      let q := s.ports[port j]
      (∀ i < j, ∀ b' : Fin 2, s.ports[port i].buffers[b'].ready? = none) →
      q.buffers[b] = .ready u → (q.buffers[otherBuffer b].ready? = none ∨ q.older = some b) →
      s.arbitrate = { s.withBuffer (port j) b (.committing u) with
        ple :=
          { lastServed := port j
            commit := some
              { port := port j, buffer := b, ctx := u.ctx, exposure := u.exposure, seg := u.seg, first := u.first
                count := u.count, cols := u.cols, row := u.first, phase := .reserve, col := 0, touched := []
                toAsk := [], missing := [], victims := [], opening := none } } }

/-! ### The placement engine (chapter 5) -/

/-- ROW RESERVE lists the cells the row's on-grid pixels fall into, each once, in the order the row reaches them,
and asks for them. Those with an OPEN slot are pinned; with one for all of them the row goes to PLACE. The first one
without a slot is opened in the lowest FREE slot, with every segment that qualifies of the context (the lowest eight
kept, and CROWDED set beyond eight). With no slot FREE the row goes to WAIT, and with SPILL as many victims
as it lacks slots, or as there are, are queued FORCED: of the context opened earlier first, and least recently
touched first. An IDLE port then takes the head of the queue (PauseHoldsAndFreesThePort). -/
def Obligations.RowReserveFindsOrOpensTouchedCells : Prop :=
  ∀ (s : State) (k : Commit) (v : Version), s.ple.commit = some k → k.phase = .reserve → k.opening = none →
    s.resolved k.ctx k.seg = some v → s.ctb.slots.wf = true →
    let cells := s.touchedBy k
    let asked : Commit := { k with touched := cells, toAsk := [], missing := [] }
    (∀ cell, cell ∈ cells ↔ ∃ c < k.cols, v.pixelCell k.row c = some cell) ∧ cells.Nodup ∧
    (cells.Pairwise fun a b => ∃ c < k.cols, v.pixelCell k.row c = some a ∧ ∀ c' ≤ c, v.pixelCell k.row c' ≠ some b) ∧
    (∃ t, s.askedFor asked cells t ∧ exec .rowReserve s = .next t.takeHead) ∧
    ((∀ n < 2048, s.ctb.slots.read n ≠ none) → (∃ cell ∈ cells, s.ctb.index k.ctx cell = none) →
      s.exc.flushing = false → s.slotsConsistent →
      let lacking := cells.filter fun cell => s.ctb.index k.ctx cell == none
      let waiting : State := { s with
        ctb := { s.ctb with slots := s.ctb.slots.map fun e => (e.1,
          if ∃ cell ∈ cells, s.ctb.index k.ctx cell = some e.1 then { e.2 with pinned := true } else e.2) }
        ple := { s.ple with commit := some { asked with phase := .wait, missing := lacking, victims := [] } } }
      exec .rowReserve s =
        .next (if s.params.spill = true then waiting.spilledBy lacking.length else waiting).takeHead)

/-- CELL OPENING COMPLETE clears the slot's cell memory and no other, and the row's asking, or its wait, goes on: a
row with no cell left to ask for goes to PLACE. What an attempt does for a waiting row: nothing lacking, it goes to
PLACE; a FREE slot, the lowest, is opened for the next cell, once no opening runs; with none FREE, a FLUSH drops the
least recently touched OPEN slot that is not pinned and gives it, and SPILL 1 queues further victims FORCED until as
many are outstanding as cells lack a slot. (A cell outside the sky grid, with an index above 1023, which no run asks
for, has no pixel and no contributor: `Version.rowReaches` says so of every cell, and no premise on the cells is needed.) -/
def Obligations.CellOpeningClearsItsMemory : Prop :=
  (∀ (s : State) (k : Commit) (n : Nat), s.ple.commit = some k → k.opening = some n → s.ctb.slots.wf = true →
    ∃ m : Memory,
      (∀ a, Memory.read m a =
        if a / 4096 = n then { sum := 0, weight := 0, damaged := false } else Memory.read s.ctb.memory a) ∧
      let done : Commit := { k with opening := none }
      let u : State := { s with ctb := { s.ctb with memory := m }, ple := { s.ple with commit := some done } }
      (k.phase = .reserve → ∃ t, u.askedFor done k.toAsk t ∧ exec .cellOpeningComplete s = .next t.takeHead) ∧
      (k.phase ≠ .reserve → exec .cellOpeningComplete s = .next u.attempt.takeHead)) ∧
  ∀ s : State, s.ctb.slots.wf = true →
    ((∀ k, s.ple.commit = some k → k.phase ≠ .wait) → s.attempt = s) ∧
    ∀ k, s.ple.commit = some k → k.phase = .wait →
      (k.missing = [] → s.attempt = if k.opening = none
        then { s with ple := { s.ple with commit := some { k with phase := .place, col := 0, victims := [] } } } else s) ∧
      ∀ cell rest, k.missing = cell :: rest →
        let given (u : State) (n : Nat) : State :=
          if k.opening = none then u.openedBy { k with missing := rest } cell n else u
        (∀ n, s.ctb.isLowestFree n → s.attempt = given s n) ∧
        ((∀ n < 2048, s.ctb.slots.read n ≠ none) →
          (s.exc.flushing = true →
            let droppable := s.ctb.touched fun e => e.state == .opened && !e.pinned
            (droppable = [] → s.attempt = s) ∧
            ∀ n, droppable.head? = some n → s.attempt = given (s.droppedBy [n]) n) ∧
          (s.exc.flushing = false → s.params.spill = false → s.attempt = s) ∧
          (s.exc.flushing = false → s.params.spill = true → s.slotsConsistent →
            s.attempt = s.spilledBy (k.missing.length - k.victims.length)))

/-- The arithmetic of a pixel: the sky pixel is its position rounded half up, if it is on the grid (R98, R99);
the calibrated value is the product of R97 divided by 2 to the 27 to nearest, clamped. -/
def Obligations.PixelPositionAndValueAreRounded : Prop :=
  ∀ v : Version,
    (∀ r c x y : Nat, v.skyPixel r c = some (x, y) ↔
      x ≤ 65535 ∧ y ≤ 65535 ∧
      let px : Int := v.originX + c * v.colStepX + r * v.rowStepX
      let py : Int := v.originY + c * v.colStepY + r * v.rowStepY
      65536 * (x : Int) ≤ px + 32768 ∧ px + 32768 < 65536 * (x + 1) ∧
      65536 * (y : Int) ≤ py + 32768 ∧ py + 32768 < 65536 * (y + 1)) ∧
    ∀ c p : Nat, ∃ q : Int, v.calibrate c p = max (-8388607) (min 8388607 q) ∧
      let exact : Int := ((p : Int) - v.bias) * v.gain * (v.flat.getD (c / 64) 0 : Nat)
      2 * (exact - 134217728 * q).natAbs ≤ 134217728 ∧
      (2 * (exact - 134217728 * q).natAbs = 134217728 → exact.natAbs < 134217728 * q.natAbs) ∧
      (p ≤ 65535 → v.bias ≤ 65535 → v.gain ≤ 65535 → v.flat.getD (c / 64) 0 ≤ 65535 → q.natAbs ≤ 8388607)

/-- PIXEL PLACE gives the pixel of the next column its one outcome, in the order of R94: DEFECT, SATURATED,
OFF_GRID, CROWDED, ACCEPTED. The outcome is counted in the context's summary and, on the grid, in the slot; only an
ACCEPTED pixel changes cell memory: WEIGHT times the value, and WEIGHT; it is counted at its contributor too. SATURATED
and ACCEPTED pixels are reported to the watches. An uncorrectable error leaves a damaged, cleared pair first, and a
corrected one is counted. -/
def Obligations.PixelOutcomesFollowTheOrderOfTests : Prop :=
  ∀ (s : State) (k : Commit) (v : Version), s.ple.commit = some k → k.phase = .place → k.col < k.cols →
    s.resolved k.ctx k.seg = some v → (s.ctx k.ctx).isOpen = true → (s.ctx k.ctx).summary.fixed = none →
    let raw := s.rawPixel k
    let up (n : Nat) : Nat := min 4294967295 (n + 1)
    let gives (found : Option MemoryError) (t : State) : Prop := exec (.pixelPlace found) s =
      .next { t with ple := { s.ple with commit := some { k with col := k.col + 1 } } }
    let xy? := v.skyPixel k.row k.col
    let slot? := xy?.bind fun xy => s.ctb.index k.ctx { cx := xy.1 / 64, cy := xy.2 / 64 }
    let hit (xy : Nat × Nat) : FirstHit :=
      { exposure := k.exposure, cell := { cx := xy.1 / 64, cy := xy.2 / 64 }, seg := some k.seg }
    let defect := v.defective s.cat.stamps k.row k.col = true
    (∀ found, defect →
      let t := s.withSummary k.ctx fun m => { m with defect := up m.defect }
      (slot? = none → gives found t) ∧
      ∀ n, slot? = some n → gives found (t.withSlot n fun e => { e with defect := up e.defect })) ∧
    (∀ found, ¬defect → v.saturation ≤ raw →
      let t := s.withSummary k.ctx fun m => { m with saturated := up m.saturated }
      (slot? = none → gives found t) ∧
      ∀ xy n, xy? = some xy → slot? = some n → gives found
        ((t.withSlot n fun e => { e with saturated := up e.saturated }).reportedBy k.ctx n (Watch.seesSaturated xy)
          (hit xy))) ∧
    (¬defect → raw < v.saturation →
      (∀ found, xy? = none → gives found (s.withSummary k.ctx fun m => { m with offGrid := up m.offGrid })) ∧
      ∀ (xy : Nat × Nat) (n : Nat) (e : Slot), xy? = some xy → slot? = some n → s.ctb.slots.read n = some e →
        let position := xy.2 % 64 * 64 + xy.1 % 64
        let a := n * 4096 + position
        let value := v.calibrate k.col raw
        let crowded (u : State) : State := (u.withSummary k.ctx fun m => { m with crowded := up m.crowded }).withSlot n
          fun e => { e with crowded := up e.crowded }
        ((∀ q ∈ e.contributors, q.seg ≠ k.seg) → ∀ found, gives found (crowded s)) ∧
        ((∃ q ∈ e.contributors, q.seg = k.seg) → s.ctb.memory.wf = true → ∀ found : Option MemoryError,
          let errors := found.toList.map fun x => (position, x)
          let u := s.errorsBy n errors
          let r := foundIn errors position (Memory.read s.ctb.memory a)
          (2040 < r.weight + v.weight → gives found (crowded u)) ∧
          (r.weight + v.weight ≤ 2040 → ∃ memory : Memory,
            (∀ b, Memory.read memory b = if b = a
              then { r with sum := r.sum + v.weight * value, weight := r.weight + v.weight }
              else Memory.read s.ctb.memory b) ∧
            let t : State := { u with ctb := { u.ctb with memory := memory } }
            let place (e : Slot) : Slot := { e with
              pixels := e.pixels + 1
              contributors := e.contributors.map fun q => if q.seg = k.seg then { q with pixels := q.pixels + 1 } else q }
            gives found (((t.withSummary k.ctx fun m => { m with pixels := up m.pixels }).withSlot n place).reportedBy
              k.ctx n (Watch.seesAccepted xy k.seg value) (hit xy)))))

/-- ROW ADVANCE, after the row's last pixel, moves the segment's next row past the row, counts a finished segment,
makes the contributors whose range ends here DONE, queues the slots that are then complete COMPLETE (those of these
contributors, and those the row had kept), moves the row's other slots to the back of the touch order in list order,
and releases every pin. Before the last row the next row begins. After it the commit completes: its buffer is IDLE with
no marker naming it, ACCEPTED is queued, the broken count is 0, the strip is counted, the natural-end check is made,
and the engine is IDLE, or takes a READY strip (StripEndMakesTheStripReady). A watch request that waits may fall between
two of the slots (how many fall where: a free value, log 35). (The row's phase before it: log 11.) -/
def Obligations.RowAdvanceMovesProgressOrEndsTheCommit : Prop :=
  ∀ (s : State) (k : Commit), s.ple.commit = some k → k.phase = .place → k.cols ≤ k.col →
    let x := s.ctx k.ctx
    let up (n : Nat) : Nat := min 4294967295 (n + 1)
    (∃ t, exec .rowAdvance s = .next t ∧
      (t.ctx k.ctx).progress = x.progress.map (fun r => if r.seg = k.seg then { r with next := k.row + 1 } else r) ∧
      (x.isOpen = true → x.summary.fixed = none → ∀ v, s.resolved k.ctx k.seg = some v →
        (t.ctx k.ctx).summary.finished = if k.row + 1 = v.rows then up x.summary.finished else x.summary.finished) ∧
      (∀ n e, t.ctb.slots.read n = some e → e.pinned = false) ∧
      t.ctb.memory = s.ctb.memory ∧ t.params = s.params ∧ t.cat.epoch = s.cat.epoch ∧ t.cmd.long = s.cmd.long ∧
      t.cmd.last = s.cmd.last ∧ t.cmd.store = s.cmd.store ∧ (s.requestWaits = false → t.cmd = s.cmd) ∧
      (k.row + 1 < k.first + k.count → t.ports = s.ports ∧ t.cat = s.cat) ∧
      (k.first + k.count ≤ k.row + 1 →
        (∀ e ∈ t.cat.entries, e.2.marker ≠ some { port := k.port, buffer := k.buffer }) ∧
        (∀ e ∈ t.cat.entries, e.2.seg = k.seg → e.2.broken = 0) ∧
        (x.isOpen = true → x.summary.fixed = none → (t.ctx k.ctx).summary.accepted = up x.summary.accepted))) ∧
    ∀ v, s.resolved k.ctx k.seg = some v → x.isOpen = true → x.summary.fixed = none → s.slotsConsistent →
      k.touched.Nodup →
      let x1 : Context := { x with
        progress := x.progress.map fun r => if r.seg = k.seg then { r with next := k.row + 1 } else r
        summary := { x.summary with
          finished := if k.row + 1 = v.rows then up x.summary.finished else x.summary.finished } }
      let ended (e : Slot) : Bool :=
        e.state == .opened && e.ctx == k.ctx && e.contributors.any fun q => q.seg == k.seg && q.last == k.row
      let s1 : State := { s with
        exc := s.exc.setCtx k.ctx x1
        ctb := { s.ctb with slots := s.ctb.slots.map fun e => (e.1, if ended e.2 = true then
          { e.2 with contributors := e.2.contributors.map fun q =>
            if q.seg = k.seg ∧ q.last = k.row ∧ q.state = .expected then { q with state := .done } else q }
          else e.2) } }
      ∃ taken : Nat → Nat,
      let s2 := s1.givenUp taken (s1.ctb.touched fun e => e.found && (ended e || e.pinned)) .complete
      let moved := k.touched.filterMap (s2.ctb.index k.ctx)
      let s3 : State := { s2 with ctb := { s2.ctb with
        touch := (s2.ctb.touch.filter fun n => decide (n ∉ moved)) ++ moved
        slots := s2.ctb.slots.map fun e => (e.1, { e.2 with pinned := false }) } }
      (k.row + 1 < k.first + k.count → exec .rowAdvance s = .next (State.takeHead { s3 with
        ple := { s.ple with commit := some { k with
          row := k.row + 1, phase := .reserve, col := 0, touched := [], toAsk := [], missing := [], victims := [] } } })) ∧
      (k.first + k.count ≤ k.row + 1 →
        let q := s.ports[k.port]
        let freed := s.cat.unmarked fun m => m == { port := k.port, buffer := k.buffer }
        let accepted : Verdict :=
          { seg := k.seg, first := k.first, code := .accepted, next := s3.exc.nextExpected k.exposure k.seg }
        let s4 : State := { s3.withSummary k.ctx (fun m => { m with accepted := up m.accepted }) with
          ports := s.ports.set k.port { q with
            buffers := q.buffers.set k.buffer .idle
            older := none
            verdicts := if q.up = true ∧ q.verdicts.length < 8 then q.verdicts ++ [accepted] else q.verdicts }
          cat := { s.cat with entries := freed.entries.map fun e =>
            (e.1, if e.2.seg = k.seg then { e.2 with broken := 0 } else e.2) }
          ple := { s.ple with commit := none } }
        exec .rowAdvance s = .next (s4.naturallyEnded k.ctx).arbitrate.takeHead)

/-! ### Cell memory read back and the cell output port (chapters 6 and 7) -/

/-- READ CELL by slot or by context and cell: a FREE slot is its number and state alone; a cell with no OPEN slot is
"no open slot" and its last part number; another slot gives the fields of R134 in order. READ WATCH gives number,
condition, enabled flag, kind, region, threshold, hit flag, hit count and first hit of one watch, or of all eight in
ascending number. (Absent and suspect items, and an EMITTING slot's missing position: the model's choice, logs 19, 22
and 34.) -/
def Obligations.ReadCellAndReadWatchGiveTheRecords : Prop :=
  (∀ (s : State) (f : Frame), s.part = .ready →
    let run := exec (.readCell f) s
    let slotItems (n : Nat) (e : Slot) : List Byte :=
      bytesOf 2 n ++ bytesOf 1 (match e.state with
          | .opened => 1
          | .queued => 2
          | .emitting => 3)
        ++ bytesOf 1 (ctxCode e.ctx) ++ bytesOf 2 e.cell.cx ++ bytesOf 2 e.cell.cy ++ bytesOf 2 e.part
        ++ (match e.completeness with
          | none => [(0xFF : Byte)]
          | some .complete => [1]
          | some .partly => [2]
          | some .forced => [3])
        ++ flagByte e.crowdedFlag ++ flagByte e.damagedFlag ++ bytesOf 1 e.watchSet.toNat ++ flagByte e.pinned
        ++ bytesOf 4 e.pixels ++ bytesOf 4 e.defect ++ bytesOf 4 e.saturated ++ bytesOf 4 e.crowded
        ++ bytesOf 4 e.damaged ++ bytesOf 2 e.contributors.length
        ++ (e.contributors.flatMap fun q => bytesOf 2 q.seg ++ bytesOf 2 q.first ++ bytesOf 2 q.last
          ++ bytesOf 1 q.state.code
          ++ (match q.suspect with
            | none => [(0xFF : Byte)]
            | some b => flagByte b)
          ++ bytesOf 4 q.pixels)
        ++ (match e.state with
          | .opened => bytesOf 2 (s.ctb.touch.idxOf n + 1)
          | .queued => bytesOf 2 (s.ctb.queue.idxOf (.slot n) + 1)
          | .emitting => [])
    (1 ≤ f.payload.length → f.nat 0 1 ≠ 1 → f.nat 0 1 ≠ 2 → run = .next (s.answered f .invalid [41])) ∧
    (f.nat 0 1 = 1 → f.payload.length = 6 →
      (1 < f.nat 1 1 → run = .next (s.answered f .invalid [38])) ∧
      (f.nat 1 1 ≤ 1 → 1023 < f.nat 2 2 ∨ 1023 < f.nat 4 2 → run = .next (s.answered f .invalid [39])) ∧
      ∀ c : Ctx, f.nat 1 1 = ctxCode c → f.nat 2 2 ≤ 1023 → f.nat 4 2 ≤ 1023 →
        let cell : CellIndex := { cx := f.nat 2 2, cy := f.nat 4 2 }
        (s.ctb.index c cell = none →
          run = .next (s.captured f ([0xFF, 0xFF] ++ bytesOf 2 (s.ctb.lastPart c cell)))) ∧
        ∀ n e, s.ctb.index c cell = some n → s.ctb.slots.read n = some e →
          run = .next (s.captured f (slotItems n e))) ∧
    (f.nat 0 1 = 2 → f.payload.length = 3 →
      (2048 ≤ f.nat 1 2 → run = .next (s.answered f .invalid [40])) ∧
      (f.nat 1 2 < 2048 → s.ctb.slots.read (f.nat 1 2) = none →
        run = .next (s.captured f (bytesOf 2 (f.nat 1 2) ++ [0]))) ∧
      ∀ e, f.nat 1 2 < 2048 → s.ctb.slots.read (f.nat 1 2) = some e →
        run = .next (s.captured f (slotItems (f.nat 1 2) e)))) ∧
  ∀ (s : State) (f : Frame), s.part = .ready → f.payload.length = 1 →
    let bytes (w : Fin 8) : List Byte :=
      let r := s.watches[w]
      let condition := if r.setting = none then 0 else if r.first = none then 1 else 2
      bytesOf 1 w.val ++ bytesOf 1 condition
        ++ (match r.setting with
          | none => [0] ++ List.replicate 9 0xFF ++ [0, 0, 0, 0]
          | some g => [1] ++ bytesOf 1 g.kind.code ++ bytesOf 2 g.x0 ++ bytesOf 2 g.x1 ++ bytesOf 2 g.y0
              ++ bytesOf 2 g.y1 ++ bytesOfInt 4 g.threshold)
        ++ flagByte r.first.isSome ++ bytesOf 2 r.count
        ++ (match r.first with
          | none => List.replicate 8 0xFF
          | some h => bytesOf 2 h.exposure ++ bytesOf 2 h.cell.cx ++ bytesOf 2 h.cell.cy
              ++ (match h.seg with
                | none => [0xFF, 0xFF]
                | some g => bytesOf 2 g))
    (∀ w : Fin 8, f.nat 0 1 = w.val → exec (.readWatch f) s = .next (s.captured f (bytes w))) ∧
    (f.nat 0 1 = 255 → exec (.readWatch f) s = .next (s.captured f
      (bytes 0 ++ bytes 1 ++ bytes 2 ++ bytes 3 ++ bytes 4 ++ bytes 5 ++ bytes 6 ++ bytes 7))) ∧
    (7 < f.nat 0 1 → f.nat 0 1 ≠ 255 → exec (.readWatch f) s = .next (s.answered f .invalid [42]))

/-- The end of a preparation: the errors its reads found act (a corrected one counted; an uncorrectable one leaves a
cleared, damaged pair, counted in the slot when the mark is new, and MEMORY); the suspect values of the slot's
contributors are filled in from the entries as they are; and the output rows (BLANK where the weight sum is 0 or the
mark is set, else the sum over the weight, rounded to nearest, a tie away from 0) and the header are built, the port before the header, held under a
raised pause state. A unit sent moves it to the next one; after the last, the slot is FREE, which gives a waiting row
an attempt (CellOpeningClearsItsMemory), the record is counted, and the IDLE port takes the next head
(PauseHoldsAndFreesThePort). The words of the units are those of 10.4. (The words last sent are the model's own field,
log 24; a unit's pause check, log 12; when the errors act, log 29.) -/
def Obligations.PreparationAndUnitsSendTheRecord : Prop :=
  (∀ (s : State) (n : Nat) (found : List (Nat × MemoryError)) (e : Slot), s.cop.state = .preparing n →
    s.ctb.slots.wf = true → s.ctb.memory.wf = true → errorsWellFormed found = true → (s.errorsBy n found).ctb.slots.read n = some e →
    let suspects : List Contributor := e.contributors.map fun q => { q with suspect := some (match s.cat.find q.seg with
      | none => false
      | some (_, k) => k.suspect) }
    let h : CellHeader :=
      { instanceNo := s.params.instanceNo, exposure := (s.ctx e.ctx).number, epoch := (s.ctx e.ctx).epoch
        cell := e.cell, part := e.part, completeness := e.completeness, crowdedFlag := e.crowdedFlag
        damagedFlag := e.damagedFlag, suspectFlag := suspects.any fun q => q.suspect == some true
        watchSet := e.watchSet, contributors := suspects, pixels := e.pixels, defect := e.defect
        saturated := e.saturated, crowded := e.crowded, damaged := e.damaged }
    ∃ rows,
      exec (.preparationEnd found) s =
        .next { (s.errorsBy n found).withSlot n (fun e => { e with contributors := suspects }) with
          cop := { s.cop with state := .sendingCell n h rows 0 s.cop.pause } } ∧
      ∀ y < 64, ∀ x < 64,
        let r := foundIn found (y * 64 + x) (Memory.read s.ctb.memory (n * 4096 + (y * 64 + x)))
        (r.damaged = true ∨ r.weight = 0 → rows.read (y * 64 + x) = none) ∧
        (r.damaged = false → r.weight ≠ 0 → ∃ q : Int,
          rows.read (y * 64 + x) = some { value := q, weight := r.weight } ∧
          2 * (r.sum - r.weight * q).natAbs ≤ r.weight ∧
          (2 * (r.sum - r.weight * q).natAbs = r.weight → r.sum.natAbs < r.weight * q.natAbs))) ∧
  (∀ (s : State) (n : Nat) (h : CellHeader) (rows : Table OutputPixel) (position : Nat),
    s.cop.state = .sendingCell n h rows position false → position < 64 →
    exec .unitSent s = .next { s with cop := { s.cop with
      state := .sendingCell n h rows (position + 1) s.cop.pause
      sent := some (.cellWords position (unitWords h rows position)) } }) ∧
  (∀ (s : State) (n : Nat) (h : CellHeader) (rows : Table OutputPixel) (e : Slot),
    s.cop.state = .sendingCell n h rows 64 false → s.ctb.slots.read n = some e →
    (s.ctx e.ctx).isOpen = true → (s.ctx e.ctx).summary.fixed = none →
    let freed : State := { s with
      ctb := { s.ctb with slots := s.ctb.slots.filter fun k => k.1 != n }
      ple := { s.ple with commit := s.ple.commit.map fun k => { k with victims := k.victims.filter fun i => i != n } }
      cop := { s.cop with sent := some (.cellWords 64 (unitWords h rows 64)) } }
    let u := freed.attempt
    let counted := u.withSummary e.ctx fun m => { m with
      damaged := min 4294967295 (m.damaged + e.damaged)
      cellsComplete := if e.completeness = some .complete then min 4294967295 (m.cellsComplete + 1) else m.cellsComplete
      cellsPartial := if e.completeness = some .partly then min 4294967295 (m.cellsPartial + 1) else m.cellsPartial
      cellsForced := if e.completeness = some .forced then min 4294967295 (m.cellsForced + 1) else m.cellsForced }
    exec .unitSent s = .next (State.takeHead { counted with cop := { u.cop with state := .idle } })) ∧
  ∀ (h : CellHeader) (rows : Table OutputPixel), h.contributors.length ≤ 8 →
    h.sentWords.length = 9 + 3 * h.contributors.length ∧
    unitWords h rows 0 = h.sentWords ∧
    (∀ y < 63, unitWords h rows (y + 1) = rowSent rows y) ∧
    unitWords h rows 64 = rowSent rows 63 ++ [crcSent (h.sentWords ++ (List.range 64).flatMap (rowSent rows))]

/-- A trailer sent whole brings its context to DONE: EXPOSURE_DONE, HELD or FREE by SUMMARY_HOLD, part numbers
cleared, versions and entries released, nothing kept RETIRING that no open context holds; a trailer held before its
first word has not been sent. An abort marker sent leaves the port IDLE. The IDLE port takes the next head
(PauseHoldsAndFreesThePort). The words of a trailer are those of 10.4. (`sent` is the model's own field, log 24; the
pause point, log 12.) -/
def Obligations.TrailerEndsTheExposure : Prop :=
  (∀ s : State,
    (∀ r point, s.cop.state = .sendingTrailer r point → point ≠ .held →
      let x : Context := if s.params.summaryHold = true then { s.ctx r.ctx with state := .held } else Context.free
      let exc := s.exc.setCtx r.ctx x
      let t : State := { s with
        att := { s.att with flags := s.att.flags ||| 0b1#9 }
        exc := exc
        cat := s.cat.releasedFor [exc.ctxA, exc.ctxB]
        ctb := if r.ctx = .A then { s.ctb with partsA := [] } else { s.ctb with partsB := [] }
        cop := { s.cop with state := .idle, sent := some (.trailerWords r.words) } }
      exec .trailerSent s = .next t.takeHead ∧
      (∀ e ∈ t.cat.entries, e.2.state = .retiring → ∃ c, (t.ctx c).holds e.2.seg = true) ∧
      ∀ i e, (i, e) ∈ s.cat.entries → e.state ≠ .retiring → ∃ e', (i, e') ∈ t.cat.entries ∧
        e' = { e with installed := e'.installed } ∧ e'.installed.getLast? = e.installed.getLast?) ∧
    (∀ r, s.cop.state = .sendingTrailer r .held → exec .trailerSent s = .next s) ∧
    (s.cop.state = .aborting false → exec .abortMarkerSent s =
      .next (State.takeHead { s with cop := { s.cop with state := .idle, sent := some .abortMarker } }))) ∧
  ∀ r : Trailer, r.words = r.sentWords ++ [crcSent r.sentWords]

/-- The pause line: a rise raises the pause state; a unit goes on to its end, and a trailer that was taken is held
before its first word, unless that word has gone: the manual lets either be first, and the choice is a free value with
a number of its own (log 12). A fall clears it, a held port goes on, and an IDLE one takes the head of the queue, if no
FLUSH is past its first step: a slot to be EMITTING and prepared, or a trailer, built from the context and its
summary, which is fixed as it stands. -/
def Obligations.PauseHoldsAndFreesThePort : Prop :=
  ∀ s : State,
    (∀ r, s.cop.state = .sendingTrailer r .atFirst → ∃ point, (point = .held ∨ point = .begun) ∧
      exec .pauseLineRise s = .next { s with
        cop := { s.cop with state := .sendingTrailer r point, pause := true }
        cmd := { s.cmd with free := s.cmd.free + 1 } }) ∧
    ((∀ r, s.cop.state ≠ .sendingTrailer r .atFirst) →
      exec .pauseLineRise s = .next { s with cop := { s.cop with pause := true } }) ∧
    (let falls (st : PortState) : Prop :=
      exec .pauseLineFall s = .next (State.takeHead { s with cop := { s.cop with state := st, pause := false } })
    (∀ n h rows position held, s.cop.state = .sendingCell n h rows position held →
      falls (.sendingCell n h rows position false)) ∧
    (∀ r, s.cop.state = .sendingTrailer r .held → falls (.sendingTrailer r .atFirst)) ∧
    (∀ r point, s.cop.state = .sendingTrailer r point → point ≠ .held → falls s.cop.state) ∧
    (∀ held, s.cop.state = .aborting held → falls (.aborting false)) ∧
    (s.cop.state = .reset ∨ (∃ n, s.cop.state = .preparing n) ∨ s.cop.state = .idle → falls s.cop.state)) ∧
    (s.cop.state ≠ .idle ∨ s.cop.pause = true ∨ s.exc.flushing = true ∨ s.ctb.queue = [] → s.takeHead = s) ∧
    (s.cop.state = .idle → s.cop.pause = false → s.exc.flushing = false →
      (∀ n rest, s.ctb.queue = .slot n :: rest →
        s.takeHead = { s.withSlot n (fun e => { e with state := .emitting }) with
          ctb := { (s.withSlot n fun e => { e with state := .emitting }).ctb with queue := rest }
          cop := { s.cop with state := .preparing n } }) ∧
      ∀ c rest, s.ctb.queue = .trailer c :: rest → (s.ctx c).summary.fixed = none →
        let x := s.ctx c
        let lists : FixedLists :=
          { missing := (x.progress.filter fun r => !r.withdrawn && !s.finished c r).map fun r => r.seg
            withdrawn := (x.progress.filter fun r => r.withdrawn).map fun r => r.seg }
        let m : Summary := { x.summary with fixed := some lists }
        let r : Trailer :=
          { instanceNo := s.params.instanceNo, ctx := c, number := x.number, epoch := x.epoch, endCause := x.endCause
            expected := x.progress.length, summary := m, lists := lists }
        s.takeHead = { s with
          exc := s.exc.setCtx c { x with summary := m }
          ctb := { s.ctb with queue := rest }
          cop := { s.cop with state := .sendingTrailer r .atFirst } })

/-! ### Watches and attention (chapter 8) -/

/-- SET WATCH checks its arguments in order and replaces the record: enabled, ARMED, no hit state, threshold 0 for
the kinds that use none. CLEAR WATCH makes the record CLEARED. Both leave the attention unit and the slots alone. (Of
one taken ahead of its turn, between two slots, what is left in its turn: NopAndRequestsNotTakenChangeOnlyTheReply.) -/
def Obligations.SetWatchReplacesTheRecord : Prop :=
  ∀ (s : State) (f : Frame), s.part = .ready → s.cmd.taken = [] →
    let number := f.nat 0 1
    let kind := f.nat 1 1
    let ordered := f.nat 2 2 ≤ f.nat 4 2 ∧ f.nat 6 2 ≤ f.nat 8 2
    let threshold := f.int 10 4
    let fits : Prop := (kind = 2 → -8388607 ≤ threshold ∧ threshold ≤ 8388607) ∧
      (kind = 4 → 0 ≤ threshold ∧ threshold ≤ 1023)
    let set := exec (.setWatch f) s
    (f.payload.length = 14 →
      (7 < number → set = .next (s.answered f .invalid [42])) ∧
      (number ≤ 7 → kind = 0 ∨ 6 < kind → set = .next (s.answered f .invalid [43])) ∧
      (number ≤ 7 → 1 ≤ kind → kind ≤ 6 → ¬ordered → set = .next (s.answered f .invalid [44])) ∧
      (number ≤ 7 → 1 ≤ kind → kind ≤ 6 → ordered → ¬fits → set = .next (s.answered f .invalid [45])) ∧
      ∀ w : Fin 8, number = w.val → 1 ≤ kind → kind ≤ 6 → ordered → fits →
        let g : WatchSetting :=
          { kind := ([.covered, .peakAbove, .saturated, .segment, .cellDone, .cellPartial] : List WatchKind).getD
              (kind - 1) .covered
            x0 := f.nat 2 2, x1 := f.nat 4 2, y0 := f.nat 6 2, y1 := f.nat 8 2
            threshold := if kind = 2 ∨ kind = 4 then threshold else 0 }
        let r : Watch := { setting := some g, count := 0, first := none }
        set = .next { s.answered f .ok [] with watches := s.watches.set w r }) ∧
    (f.payload.length = 1 →
      (7 < number → exec (.clearWatch f) s = .next (s.answered f .invalid [42])) ∧
      ∀ w : Fin 8, number = w.val → exec (.clearWatch f) s = .next { s.answered f .ok [] with
        watches := s.watches.set w { setting := none, count := 0, first := none } })

/-- SET ENABLE replaces the enables and keeps the flags; ACKNOWLEDGE clears the named flags and the hit states of
the watches of its mask, and keeps the enables; each answers the flags as they then stand. A cause set with a bit
above the nine is INVALID 46 and changes nothing. The line is asserted by a flag and its enable. (Of
an ACKNOWLEDGE taken ahead of its turn, between two slots, what is left in its turn:
NopAndRequestsNotTakenChangeOnlyTheReply.) -/
def Obligations.EnablesAndAcknowledgements : Prop :=
  ∀ (s : State) (f : Frame), s.part = .ready →
    let set := f.nat 0 2
    (s.att.line = true ↔ ∃ i < 9, s.att.flags.getLsbD i = true ∧ s.att.enables.getLsbD i = true) ∧
    (f.payload.length = 2 →
      (511 < set → exec (.setEnable f) s = .next (s.answered f .invalid [46])) ∧
      (set ≤ 511 → exec (.setEnable f) s = .next { s.answered f .ok (bytesOf 2 s.att.flags.toNat) with
        att := { s.att with enables := BitVec.ofNat 9 set } })) ∧
    (f.payload.length = 3 → s.cmd.taken = [] →
      (511 < set → exec (.acknowledge f) s = .next (s.answered f .invalid [46])) ∧
      (set ≤ 511 →
        let flags := s.att.flags &&& ~~~(BitVec.ofNat 9 set)
        ∃ t, exec (.acknowledge f) s = .next t ∧
          t = { s.answered f .ok (bytesOf 2 flags.toNat) with att := { s.att with flags := flags }, watches := t.watches } ∧
          ∀ w : Fin 8, t.watches[w] =
            if (f.nat 2 1).testBit w.val = true then { s.watches[w] with count := 0, first := none }
            else s.watches[w]))

/-! ### Invariants and frames -/

/-- Reset leaves the values the manual gives, and a state that meets the invariants. -/
def Obligations.ResetMeetsTheInvariants : Prop :=
  let s := State.reset
  s.part = .starting ∧ s.cat.entries = [] ∧ s.cat.epoch = 0 ∧ s.cat.batch = .closed ∧ s.cat.sign.status = .none ∧
  s.exc.ctxA = Context.free ∧ s.exc.ctxB = Context.free ∧ s.exc.opening = none ∧
  (∀ p : Fin 4, s.ports[p].up = false ∧ s.ports[p].receive = .awaiting ∧ s.ports[p].verdicts = [] ∧
    s.ports[p].buffers[(0 : Fin 2)] = .idle ∧ s.ports[p].buffers[(1 : Fin 2)] = .idle) ∧
  s.ple.lastServed = 3 ∧ s.ple.commit = none ∧ s.ctb.slots = [] ∧ s.ctb.touch = [] ∧ s.ctb.queue = [] ∧
  s.cop.state = .reset ∧ (∀ w : Fin 8, s.watches[w] = { setting := none, count := 0, first := none }) ∧
  s.att = { flags := 0, enables := 0 } ∧ s.params.values = [20000, 50, 4, 1, 0, 1, 0, 1, 15, 0] ∧
  s.cmd.replySlot = none ∧ s.cmd.cursor = none ∧ s.cmd.long = none ∧ s.cmd.last = none ∧ s.cmd.frameErrors = 0 ∧
  s.catalogueConsistent ∧ s.exposureConsistent ∧ s.slotsConsistent ∧ s.ctb.memory.wf = true

/-- Cell memory keeps its canonical form through every step. -/
def Obligations.MemoryStaysCanonical : Prop :=
  ∀ s t : State, s.ctb.memory.wf = true → step s = .next t → t.ctb.memory.wf = true

/-- Every step keeps the invariant of exposure control, beside that of the cell table. -/
def Obligations.ExposureStaysConsistent : Prop :=
  ∀ s t : State, s.exposureConsistent → s.slotsConsistent → step s = .next t → t.exposureConsistent

/-- Every step keeps the invariant of the catalogue, beside that of exposure control. -/
def Obligations.CatalogueStaysConsistent : Prop :=
  ∀ s t : State, s.exposureConsistent → s.catalogueConsistent → step s = .next t → t.catalogueConsistent

/-- Every step keeps the invariant of the cell table. -/
def Obligations.SlotsStayConsistent : Prop :=
  ∀ s t : State, s.slotsConsistent → step s = .next t → t.slotsConsistent

/-- Every command that can be sent as a frame is the command its bytes decode to: no field of it is lost. -/
def Obligations.FramesDecodeToTheirCommand : Prop :=
  ∀ (i : Instr) (bs : List Byte), i.wellFormed = true → encode i = some bs → decodeFrame bs = i
end

