-- ==== Sys2Proof/Laws/State.lean ====
section
/-! SUPPORT. What the named updates of the part leave as it was, and what they write, field by field. -/

namespace Sys2Proof.Laws

open Sys2Proof.Machine

/-! ### raise -/

@[simp] theorem raise_part (s : State) (c : Cause) : (s.raise c).part = s.part := rfl
@[simp] theorem raise_cat (s : State) (c : Cause) : (s.raise c).cat = s.cat := rfl
@[simp] theorem raise_exc (s : State) (c : Cause) : (s.raise c).exc = s.exc := rfl
@[simp] theorem raise_ports (s : State) (c : Cause) : (s.raise c).ports = s.ports := rfl
@[simp] theorem raise_ple (s : State) (c : Cause) : (s.raise c).ple = s.ple := rfl
@[simp] theorem raise_ctb (s : State) (c : Cause) : (s.raise c).ctb = s.ctb := rfl
@[simp] theorem raise_cop (s : State) (c : Cause) : (s.raise c).cop = s.cop := rfl
@[simp] theorem raise_watches (s : State) (c : Cause) : (s.raise c).watches = s.watches := rfl
@[simp] theorem raise_att (s : State) (c : Cause) : (s.raise c).att = s.att.raise c := rfl
@[simp] theorem raise_cmd (s : State) (c : Cause) : (s.raise c).cmd = s.cmd := rfl
@[simp] theorem raise_params (s : State) (c : Cause) : (s.raise c).params = s.params := rfl
@[simp] theorem raise_pending (s : State) (c : Cause) : (s.raise c).pending = s.pending := rfl

/-! ### changeCtx -/

@[simp] theorem changeCtx_part (s : State) (c : Ctx) (f : Context → Context) : (s.changeCtx c f).part = s.part := rfl
@[simp] theorem changeCtx_cat (s : State) (c : Ctx) (f : Context → Context) : (s.changeCtx c f).cat = s.cat := rfl
@[simp] theorem changeCtx_exc (s : State) (c : Ctx) (f : Context → Context) :
    (s.changeCtx c f).exc = s.exc.setCtx c (f (s.exc.ctx c)) := rfl
@[simp] theorem changeCtx_ports (s : State) (c : Ctx) (f : Context → Context) :
    (s.changeCtx c f).ports = s.ports := rfl
@[simp] theorem changeCtx_ple (s : State) (c : Ctx) (f : Context → Context) : (s.changeCtx c f).ple = s.ple := rfl
@[simp] theorem changeCtx_ctb (s : State) (c : Ctx) (f : Context → Context) : (s.changeCtx c f).ctb = s.ctb := rfl
@[simp] theorem changeCtx_cop (s : State) (c : Ctx) (f : Context → Context) : (s.changeCtx c f).cop = s.cop := rfl
@[simp] theorem changeCtx_watches (s : State) (c : Ctx) (f : Context → Context) :
    (s.changeCtx c f).watches = s.watches := rfl
@[simp] theorem changeCtx_att (s : State) (c : Ctx) (f : Context → Context) : (s.changeCtx c f).att = s.att := rfl
@[simp] theorem changeCtx_cmd (s : State) (c : Ctx) (f : Context → Context) : (s.changeCtx c f).cmd = s.cmd := rfl
@[simp] theorem changeCtx_params (s : State) (c : Ctx) (f : Context → Context) :
    (s.changeCtx c f).params = s.params := rfl
@[simp] theorem changeCtx_pending (s : State) (c : Ctx) (f : Context → Context) :
    (s.changeCtx c f).pending = s.pending := rfl

/-! ### count -/

@[simp] theorem count_part (s : State) (c : Ctx) (f : Summary → Summary) : (s.count c f).part = s.part := rfl
@[simp] theorem count_cat (s : State) (c : Ctx) (f : Summary → Summary) : (s.count c f).cat = s.cat := rfl
@[simp] theorem count_exc (s : State) (c : Ctx) (f : Summary → Summary) :
    (s.count c f).exc = s.exc.setCtx c ((s.exc.ctx c).count f) := rfl
@[simp] theorem count_ports (s : State) (c : Ctx) (f : Summary → Summary) : (s.count c f).ports = s.ports := rfl
@[simp] theorem count_ple (s : State) (c : Ctx) (f : Summary → Summary) : (s.count c f).ple = s.ple := rfl
@[simp] theorem count_ctb (s : State) (c : Ctx) (f : Summary → Summary) : (s.count c f).ctb = s.ctb := rfl
@[simp] theorem count_cop (s : State) (c : Ctx) (f : Summary → Summary) : (s.count c f).cop = s.cop := rfl
@[simp] theorem count_watches (s : State) (c : Ctx) (f : Summary → Summary) :
    (s.count c f).watches = s.watches := rfl
@[simp] theorem count_att (s : State) (c : Ctx) (f : Summary → Summary) : (s.count c f).att = s.att := rfl
@[simp] theorem count_cmd (s : State) (c : Ctx) (f : Summary → Summary) : (s.count c f).cmd = s.cmd := rfl
@[simp] theorem count_params (s : State) (c : Ctx) (f : Summary → Summary) : (s.count c f).params = s.params := rfl
@[simp] theorem count_pending (s : State) (c : Ctx) (f : Summary → Summary) :
    (s.count c f).pending = s.pending := rfl

/-! ### changePort -/

@[simp] theorem changePort_part (s : State) (p : Fin 4) (f : Port → Port) : (s.changePort p f).part = s.part := rfl
@[simp] theorem changePort_cat (s : State) (p : Fin 4) (f : Port → Port) : (s.changePort p f).cat = s.cat := rfl
@[simp] theorem changePort_exc (s : State) (p : Fin 4) (f : Port → Port) : (s.changePort p f).exc = s.exc := rfl
@[simp] theorem changePort_ports (s : State) (p : Fin 4) (f : Port → Port) :
    (s.changePort p f).ports = s.ports.set p (f s.ports[p]) := rfl
@[simp] theorem changePort_ple (s : State) (p : Fin 4) (f : Port → Port) : (s.changePort p f).ple = s.ple := rfl
@[simp] theorem changePort_ctb (s : State) (p : Fin 4) (f : Port → Port) : (s.changePort p f).ctb = s.ctb := rfl
@[simp] theorem changePort_cop (s : State) (p : Fin 4) (f : Port → Port) : (s.changePort p f).cop = s.cop := rfl
@[simp] theorem changePort_watches (s : State) (p : Fin 4) (f : Port → Port) :
    (s.changePort p f).watches = s.watches := rfl
@[simp] theorem changePort_att (s : State) (p : Fin 4) (f : Port → Port) : (s.changePort p f).att = s.att := rfl
@[simp] theorem changePort_cmd (s : State) (p : Fin 4) (f : Port → Port) : (s.changePort p f).cmd = s.cmd := rfl
@[simp] theorem changePort_params (s : State) (p : Fin 4) (f : Port → Port) :
    (s.changePort p f).params = s.params := rfl
@[simp] theorem changePort_pending (s : State) (p : Fin 4) (f : Port → Port) :
    (s.changePort p f).pending = s.pending := rfl

/-! ### changeSlot -/

@[simp] theorem changeSlot_part (s : State) (n : Nat) (f : Slot → Slot) : (s.changeSlot n f).part = s.part := rfl
@[simp] theorem changeSlot_cat (s : State) (n : Nat) (f : Slot → Slot) : (s.changeSlot n f).cat = s.cat := rfl
@[simp] theorem changeSlot_exc (s : State) (n : Nat) (f : Slot → Slot) : (s.changeSlot n f).exc = s.exc := rfl
@[simp] theorem changeSlot_ports (s : State) (n : Nat) (f : Slot → Slot) : (s.changeSlot n f).ports = s.ports := rfl
@[simp] theorem changeSlot_ple (s : State) (n : Nat) (f : Slot → Slot) : (s.changeSlot n f).ple = s.ple := rfl
@[simp] theorem changeSlot_ctb (s : State) (n : Nat) (f : Slot → Slot) :
    (s.changeSlot n f).ctb = { s.ctb with slots := s.ctb.slots.change n f } := rfl
@[simp] theorem changeSlot_cop (s : State) (n : Nat) (f : Slot → Slot) : (s.changeSlot n f).cop = s.cop := rfl
@[simp] theorem changeSlot_watches (s : State) (n : Nat) (f : Slot → Slot) :
    (s.changeSlot n f).watches = s.watches := rfl
@[simp] theorem changeSlot_att (s : State) (n : Nat) (f : Slot → Slot) : (s.changeSlot n f).att = s.att := rfl
@[simp] theorem changeSlot_cmd (s : State) (n : Nat) (f : Slot → Slot) : (s.changeSlot n f).cmd = s.cmd := rfl
@[simp] theorem changeSlot_params (s : State) (n : Nat) (f : Slot → Slot) :
    (s.changeSlot n f).params = s.params := rfl
@[simp] theorem changeSlot_pending (s : State) (n : Nat) (f : Slot → Slot) :
    (s.changeSlot n f).pending = s.pending := rfl

/-! ### changeCommit -/

@[simp] theorem changeCommit_part (s : State) (f : Commit → Commit) : (s.changeCommit f).part = s.part := rfl
@[simp] theorem changeCommit_cat (s : State) (f : Commit → Commit) : (s.changeCommit f).cat = s.cat := rfl
@[simp] theorem changeCommit_exc (s : State) (f : Commit → Commit) : (s.changeCommit f).exc = s.exc := rfl
@[simp] theorem changeCommit_ports (s : State) (f : Commit → Commit) : (s.changeCommit f).ports = s.ports := rfl
@[simp] theorem changeCommit_ple (s : State) (f : Commit → Commit) :
    (s.changeCommit f).ple = { s.ple with commit := s.ple.commit.map f } := rfl
@[simp] theorem changeCommit_ctb (s : State) (f : Commit → Commit) : (s.changeCommit f).ctb = s.ctb := rfl
@[simp] theorem changeCommit_cop (s : State) (f : Commit → Commit) : (s.changeCommit f).cop = s.cop := rfl
@[simp] theorem changeCommit_watches (s : State) (f : Commit → Commit) :
    (s.changeCommit f).watches = s.watches := rfl
@[simp] theorem changeCommit_att (s : State) (f : Commit → Commit) : (s.changeCommit f).att = s.att := rfl
@[simp] theorem changeCommit_cmd (s : State) (f : Commit → Commit) : (s.changeCommit f).cmd = s.cmd := rfl
@[simp] theorem changeCommit_params (s : State) (f : Commit → Commit) : (s.changeCommit f).params = s.params := rfl
@[simp] theorem changeCommit_pending (s : State) (f : Commit → Commit) :
    (s.changeCommit f).pending = s.pending := rfl

/-! ### changeEntry -/

@[simp] theorem changeEntry_part (s : State) (g : Nat) (f : Entry → Entry) : (s.changeEntry g f).part = s.part := rfl
@[simp] theorem changeEntry_cat (s : State) (g : Nat) (f : Entry → Entry) :
    (s.changeEntry g f).cat = s.cat.changeEntry g f := rfl
@[simp] theorem changeEntry_exc (s : State) (g : Nat) (f : Entry → Entry) : (s.changeEntry g f).exc = s.exc := rfl
@[simp] theorem changeEntry_ports (s : State) (g : Nat) (f : Entry → Entry) :
    (s.changeEntry g f).ports = s.ports := rfl
@[simp] theorem changeEntry_ple (s : State) (g : Nat) (f : Entry → Entry) : (s.changeEntry g f).ple = s.ple := rfl
@[simp] theorem changeEntry_ctb (s : State) (g : Nat) (f : Entry → Entry) : (s.changeEntry g f).ctb = s.ctb := rfl
@[simp] theorem changeEntry_cop (s : State) (g : Nat) (f : Entry → Entry) : (s.changeEntry g f).cop = s.cop := rfl
@[simp] theorem changeEntry_watches (s : State) (g : Nat) (f : Entry → Entry) :
    (s.changeEntry g f).watches = s.watches := rfl
@[simp] theorem changeEntry_att (s : State) (g : Nat) (f : Entry → Entry) : (s.changeEntry g f).att = s.att := rfl
@[simp] theorem changeEntry_cmd (s : State) (g : Nat) (f : Entry → Entry) : (s.changeEntry g f).cmd = s.cmd := rfl
@[simp] theorem changeEntry_params (s : State) (g : Nat) (f : Entry → Entry) :
    (s.changeEntry g f).params = s.params := rfl
@[simp] theorem changeEntry_pending (s : State) (g : Nat) (f : Entry → Entry) :
    (s.changeEntry g f).pending = s.pending := rfl

/-! ### freeBuffer -/

@[simp] theorem freeBuffer_part (s : State) (p : Fin 4) (b : Fin 2) : (s.freeBuffer p b).part = s.part := rfl
@[simp] theorem freeBuffer_cat (s : State) (p : Fin 4) (b : Fin 2) :
    (s.freeBuffer p b).cat = s.cat.clearMarker p b := rfl
@[simp] theorem freeBuffer_exc (s : State) (p : Fin 4) (b : Fin 2) : (s.freeBuffer p b).exc = s.exc := rfl
@[simp] theorem freeBuffer_ports (s : State) (p : Fin 4) (b : Fin 2) :
    (s.freeBuffer p b).ports = s.ports.set p (s.ports[p].free b) := rfl
@[simp] theorem freeBuffer_ple (s : State) (p : Fin 4) (b : Fin 2) : (s.freeBuffer p b).ple = s.ple := rfl
@[simp] theorem freeBuffer_ctb (s : State) (p : Fin 4) (b : Fin 2) : (s.freeBuffer p b).ctb = s.ctb := rfl
@[simp] theorem freeBuffer_cop (s : State) (p : Fin 4) (b : Fin 2) : (s.freeBuffer p b).cop = s.cop := rfl
@[simp] theorem freeBuffer_watches (s : State) (p : Fin 4) (b : Fin 2) :
    (s.freeBuffer p b).watches = s.watches := rfl
@[simp] theorem freeBuffer_att (s : State) (p : Fin 4) (b : Fin 2) : (s.freeBuffer p b).att = s.att := rfl
@[simp] theorem freeBuffer_cmd (s : State) (p : Fin 4) (b : Fin 2) : (s.freeBuffer p b).cmd = s.cmd := rfl
@[simp] theorem freeBuffer_params (s : State) (p : Fin 4) (b : Fin 2) : (s.freeBuffer p b).params = s.params := rfl
@[simp] theorem freeBuffer_pending (s : State) (p : Fin 4) (b : Fin 2) :
    (s.freeBuffer p b).pending = s.pending := rfl

/-! ### clockOut -/

@[simp] theorem clockOut_part (s : State) (n : Nat) : (s.clockOut n).part = s.part := rfl
@[simp] theorem clockOut_cat (s : State) (n : Nat) : (s.clockOut n).cat = s.cat := rfl
@[simp] theorem clockOut_exc (s : State) (n : Nat) : (s.clockOut n).exc = s.exc := rfl
@[simp] theorem clockOut_ports (s : State) (n : Nat) : (s.clockOut n).ports = s.ports := rfl
@[simp] theorem clockOut_ple (s : State) (n : Nat) : (s.clockOut n).ple = s.ple := rfl
@[simp] theorem clockOut_ctb (s : State) (n : Nat) : (s.clockOut n).ctb = s.ctb := rfl
@[simp] theorem clockOut_cop (s : State) (n : Nat) : (s.clockOut n).cop = s.cop := rfl
@[simp] theorem clockOut_watches (s : State) (n : Nat) : (s.clockOut n).watches = s.watches := rfl
@[simp] theorem clockOut_att (s : State) (n : Nat) : (s.clockOut n).att = s.att := rfl
@[simp] theorem clockOut_cmd (s : State) (n : Nat) :
    (s.clockOut n).cmd = { s.cmd with dataOut := clockedOut s.cmd.replySlot n } := rfl
@[simp] theorem clockOut_params (s : State) (n : Nat) : (s.clockOut n).params = s.params := rfl
@[simp] theorem clockOut_pending (s : State) (n : Nat) : (s.clockOut n).pending = s.pending := rfl

/-! ### place -/

@[simp] theorem place_part (s : State) (t : Byte) (a : Answer) : (s.place t a).part = s.part := rfl
@[simp] theorem place_cat (s : State) (t : Byte) (a : Answer) : (s.place t a).cat = s.cat := rfl
@[simp] theorem place_exc (s : State) (t : Byte) (a : Answer) : (s.place t a).exc = s.exc := rfl
@[simp] theorem place_ports (s : State) (t : Byte) (a : Answer) : (s.place t a).ports = s.ports := rfl
@[simp] theorem place_ple (s : State) (t : Byte) (a : Answer) : (s.place t a).ple = s.ple := rfl
@[simp] theorem place_ctb (s : State) (t : Byte) (a : Answer) : (s.place t a).ctb = s.ctb := rfl
@[simp] theorem place_cop (s : State) (t : Byte) (a : Answer) : (s.place t a).cop = s.cop := rfl
@[simp] theorem place_watches (s : State) (t : Byte) (a : Answer) : (s.place t a).watches = s.watches := rfl
@[simp] theorem place_att (s : State) (t : Byte) (a : Answer) : (s.place t a).att = s.att := rfl
@[simp] theorem place_cmd (s : State) (t : Byte) (a : Answer) :
    (s.place t a).cmd = { s.cmd with replySlot := some { status := a.status, tag := t, payload := a.payload } } := rfl
@[simp] theorem place_params (s : State) (t : Byte) (a : Answer) : (s.place t a).params = s.params := rfl
@[simp] theorem place_pending (s : State) (t : Byte) (a : Answer) : (s.place t a).pending = s.pending := rfl

/-! ### fullReset -/

@[simp] theorem fullReset_part (s : State) : (s.fullReset).part = .starting := rfl
@[simp] theorem fullReset_cat (s : State) : (s.fullReset).cat = Cat.reset := rfl
@[simp] theorem fullReset_exc (s : State) : (s.fullReset).exc = Exc.reset := rfl
@[simp] theorem fullReset_ports (s : State) : (s.fullReset).ports = Vector.replicate 4 Port.reset := rfl
@[simp] theorem fullReset_ple (s : State) : (s.fullReset).ple = { lastServed := 3, commit := none } := rfl
@[simp] theorem fullReset_ctb (s : State) : (s.fullReset).ctb = { Ctb.reset with memory := s.ctb.memory } := rfl
@[simp] theorem fullReset_cop (s : State) :
    (s.fullReset).cop = { state := .reset, pause := s.cop.pause, sent := none } := rfl
@[simp] theorem fullReset_watches (s : State) : (s.fullReset).watches = Vector.replicate 8 Watch.cleared := rfl
@[simp] theorem fullReset_att (s : State) : (s.fullReset).att = { flags := 0, enables := 0 } := rfl
@[simp] theorem fullReset_cmd (s : State) : (s.fullReset).cmd =
    { Cmd.reset with dataOut := s.cmd.dataOut, free := s.cmd.free } := rfl
@[simp] theorem fullReset_params (s : State) : (s.fullReset).params = Params.reset := rfl
@[simp] theorem fullReset_pending (s : State) : (s.fullReset).pending = s.pending := rfl

/-! ### Contexts -/

@[simp] theorem ctx_setCtx_self (x : Exc) (c : Ctx) (k : Context) : (x.setCtx c k).ctx c = k := by cases c <;> rfl
@[simp] theorem ctx_setCtx_other (x : Exc) (c : Ctx) (k : Context) :
    (x.setCtx c k).ctx (otherCtx c) = x.ctx (otherCtx c) := by cases c <;> rfl
@[simp] theorem setCtx_opening (x : Exc) (c : Ctx) (k : Context) : (x.setCtx c k).opening = x.opening := by
  cases c <;> rfl
@[simp] theorem setCtx_latch (x : Exc) (c : Ctx) (k : Context) : (x.setCtx c k).latch = x.latch := by cases c <;> rfl
@[simp] theorem setCtx_flushing (x : Exc) (c : Ctx) (k : Context) : (x.setCtx c k).flushing = x.flushing := by
  cases c <;> rfl

end Sys2Proof.Laws
end

