-- ==== Sys2Proof/Laws/Frame.lean ====
section
/-! SUPPORT. The frame of every shared operation: the blocks of the part it leaves as they were. A block an
operation does not name here is one it may change. -/

namespace Sys2Proof.Laws

open Sys2Proof.Machine

/-- What every step of a fold leaves as it was, the fold leaves as it was. -/
theorem foldl_keeps {σ α β : Type} (get : σ → β) (f : σ → α → σ) (h : ∀ s a, get (f s a) = get s) (l : List α)
    (s : σ) : get (l.foldl f s) = get s := by
  induction l generalizing s with
  | nil => rfl
  | cons a l ih => rw [List.foldl_cons, ih, h]

/-- Counting a refusal (R64). -/
@[simp] theorem countRefusal_frame (s : State) (e : Nat) (k : VerdictCode) :
    (s.countRefusal e k).part = s.part ∧ (s.countRefusal e k).cat = s.cat ∧
    (s.countRefusal e k).ports = s.ports ∧ (s.countRefusal e k).ple = s.ple ∧
    (s.countRefusal e k).ctb = s.ctb ∧ (s.countRefusal e k).cop = s.cop ∧
    (s.countRefusal e k).watches = s.watches ∧ (s.countRefusal e k).att = s.att ∧
    (s.countRefusal e k).cmd = s.cmd ∧ (s.countRefusal e k).params = s.params ∧
    (s.countRefusal e k).pending = s.pending := by
  unfold State.countRefusal; split <;> simp

/-- A verdict reaches its port and a summary (R85). -/
@[simp] theorem giveVerdict_frame (s : State) (p : Fin 4) (e g r : Nat) (k : VerdictCode) :
    (s.giveVerdict p e g r k).part = s.part ∧ (s.giveVerdict p e g r k).cat = s.cat ∧
    (s.giveVerdict p e g r k).ple = s.ple ∧ (s.giveVerdict p e g r k).ctb = s.ctb ∧
    (s.giveVerdict p e g r k).cop = s.cop ∧ (s.giveVerdict p e g r k).watches = s.watches ∧
    (s.giveVerdict p e g r k).att = s.att ∧ (s.giveVerdict p e g r k).cmd = s.cmd ∧
    (s.giveVerdict p e g r k).params = s.params ∧ (s.giveVerdict p e g r k).pending = s.pending := by
  simp [State.giveVerdict]

/-- A broken-strip report (R15). -/
@[simp] theorem brokenReport_frame (s : State) (g : Nat) :
    (s.brokenReport g).part = s.part ∧ (s.brokenReport g).exc = s.exc ∧ (s.brokenReport g).ports = s.ports ∧
    (s.brokenReport g).ple = s.ple ∧ (s.brokenReport g).ctb = s.ctb ∧ (s.brokenReport g).cop = s.cop ∧
    (s.brokenReport g).watches = s.watches ∧ (s.brokenReport g).cmd = s.cmd ∧
    (s.brokenReport g).params = s.params ∧ (s.brokenReport g).pending = s.pending := by
  simp only [State.brokenReport]; split <;> split <;> simp

/-- The end of a broken strip (R84). -/
@[simp] theorem breakStrip_frame (s : State) (p : Fin 4) (b : Fin 2) (t : Strip) (k : VerdictCode) :
    (s.breakStrip p b t k).part = s.part ∧ (s.breakStrip p b t k).ple = s.ple ∧
    (s.breakStrip p b t k).ctb = s.ctb ∧ (s.breakStrip p b t k).cop = s.cop ∧
    (s.breakStrip p b t k).watches = s.watches ∧ (s.breakStrip p b t k).cmd = s.cmd ∧
    (s.breakStrip p b t k).params = s.params ∧ (s.breakStrip p b t k).pending = s.pending := by
  simp [State.breakStrip]

/-- An abandonment (R88). -/
@[simp] theorem abandon_frame (s : State) (p : Fin 4) (b : Fin 2) (k : VerdictCode) :
    (s.abandon p b k).part = s.part ∧ (s.abandon p b k).ple = s.ple ∧ (s.abandon p b k).ctb = s.ctb ∧
    (s.abandon p b k).cop = s.cop ∧ (s.abandon p b k).watches = s.watches ∧ (s.abandon p b k).att = s.att ∧
    (s.abandon p b k).cmd = s.cmd ∧ (s.abandon p b k).params = s.params ∧ (s.abandon p b k).pending = s.pending := by
  simp only [State.abandon]; split <;> (try split) <;> simp

/-- A whole abandonment (R88). -/
@[simp] theorem abandonWhere_frame (s : State) (chosen : Strip → Bool) (k : VerdictCode) :
    (s.abandonWhere chosen k).part = s.part ∧ (s.abandonWhere chosen k).ple = s.ple ∧
    (s.abandonWhere chosen k).ctb = s.ctb ∧ (s.abandonWhere chosen k).cop = s.cop ∧
    (s.abandonWhere chosen k).watches = s.watches ∧ (s.abandonWhere chosen k).att = s.att ∧
    (s.abandonWhere chosen k).cmd = s.cmd ∧ (s.abandonWhere chosen k).params = s.params ∧
    (s.abandonWhere chosen k).pending = s.pending := by
  refine ⟨?_, ?_, ?_, ?_, ?_, ?_, ?_, ?_, ?_⟩ <;>
  · refine foldl_keeps _ _ (fun s p => ?_) _ _
    refine foldl_keeps _ _ (fun s b => ?_) _ _
    split <;> simp

/-- A port goes DOWN (R72). -/
@[simp] theorem goDown_frame (s : State) (p : Fin 4) :
    (s.goDown p).part = s.part ∧ (s.goDown p).exc = s.exc ∧ (s.goDown p).ple = s.ple ∧
    (s.goDown p).ctb = s.ctb ∧ (s.goDown p).cop = s.cop ∧ (s.goDown p).watches = s.watches ∧
    (s.goDown p).cmd = s.cmd ∧ (s.goDown p).params = s.params ∧ (s.goDown p).pending = s.pending := by
  simp only [State.goDown, raise_part, raise_exc, raise_ple, raise_ctb, raise_cop, raise_watches, raise_cmd, raise_params,
    raise_pending, changePort_part, changePort_exc, changePort_ple, changePort_ctb, changePort_cop, changePort_watches,
    changePort_cmd, changePort_params, changePort_pending]
  refine ⟨?_, ?_, ?_, ?_, ?_, ?_, ?_, ?_, ?_⟩ <;>
  · refine foldl_keeps _ _ (fun s b => ?_) _ _
    simp

/-- A release (R37). -/
@[simp] theorem release_frame (s : State) :
    s.release.part = s.part ∧ s.release.exc = s.exc ∧ s.release.ports = s.ports ∧ s.release.ple = s.ple ∧
    s.release.ctb = s.ctb ∧ s.release.cop = s.cop ∧ s.release.watches = s.watches ∧ s.release.att = s.att ∧
    s.release.cmd = s.cmd ∧ s.release.params = s.params ∧ s.release.pending = s.pending := by
  simp [State.release]

/-- A due batch application begins (R42). -/
@[simp] theorem beginDueBatch_frame (s : State) :
    s.beginDueBatch.part = s.part ∧ s.beginDueBatch.exc = s.exc ∧ s.beginDueBatch.ports = s.ports ∧
    s.beginDueBatch.ple = s.ple ∧ s.beginDueBatch.ctb = s.ctb ∧ s.beginDueBatch.cop = s.cop ∧
    s.beginDueBatch.watches = s.watches ∧ s.beginDueBatch.att = s.att ∧ s.beginDueBatch.cmd = s.cmd ∧
    s.beginDueBatch.params = s.params ∧ s.beginDueBatch.pending = s.pending := by
  simp only [State.beginDueBatch]; (repeat' split) <;> simp

/-- A long request completes (R165). -/
@[simp] theorem completeLong_frame (s : State) (r : LongOutcome) (v : Option Word) :
    (s.completeLong r v).part = s.part ∧ (s.completeLong r v).cat = s.cat ∧ (s.completeLong r v).exc = s.exc ∧
    (s.completeLong r v).ports = s.ports ∧ (s.completeLong r v).ple = s.ple ∧
    (s.completeLong r v).ctb = s.ctb ∧ (s.completeLong r v).cop = s.cop ∧
    (s.completeLong r v).watches = s.watches ∧ (s.completeLong r v).params = s.params ∧
    (s.completeLong r v).pending = s.pending := by
  simp only [State.completeLong]; (repeat' split) <;> simp

/-- One match (R150). -/
@[simp] theorem matchWatch_frame (s : State) (c : Ctx) (n : Nat) (h : FirstHit) (w : Fin 8) :
    (s.matchWatch c n h w).part = s.part ∧ (s.matchWatch c n h w).cat = s.cat ∧
    (s.matchWatch c n h w).ports = s.ports ∧ (s.matchWatch c n h w).ple = s.ple ∧
    (s.matchWatch c n h w).cop = s.cop ∧ (s.matchWatch c n h w).cmd = s.cmd ∧
    (s.matchWatch c n h w).params = s.params ∧ (s.matchWatch c n h w).pending = s.pending := by
  simp only [State.matchWatch]; (repeat' split) <;> simp

/-- A report (R149). -/
@[simp] theorem report_frame (s : State) (test : WatchSetting → Bool) (c : Ctx) (n : Nat) (h : FirstHit) :
    (s.report test c n h).part = s.part ∧ (s.report test c n h).cat = s.cat ∧
    (s.report test c n h).ports = s.ports ∧ (s.report test c n h).ple = s.ple ∧
    (s.report test c n h).cop = s.cop ∧ (s.report test c n h).cmd = s.cmd ∧
    (s.report test c n h).params = s.params ∧ (s.report test c n h).pending = s.pending := by
  refine ⟨?_, ?_, ?_, ?_, ?_, ?_, ?_, ?_⟩ <;>
  · refine foldl_keeps _ _ ?_ _ _
    intro s w; split <;> simp

/-- The first stage of an opening (R114). -/
@[simp] theorem openCell_frame (s : State) (c : Ctx) (cell : CellIndex) (n : Nat) :
    (s.openCell c cell n).part = s.part ∧ (s.openCell c cell n).cat = s.cat ∧
    (s.openCell c cell n).exc = s.exc ∧ (s.openCell c cell n).ports = s.ports ∧
    (s.openCell c cell n).cop = s.cop ∧ (s.openCell c cell n).watches = s.watches ∧
    (s.openCell c cell n).att = s.att ∧ (s.openCell c cell n).cmd = s.cmd ∧
    (s.openCell c cell n).params = s.params ∧ (s.openCell c cell n).pending = s.pending := by
  simp [State.openCell]

/-- A slot is queued (R120). -/
@[simp] theorem queueSlot_frame (s : State) (n : Nat) (k : Completeness) :
    (s.queueSlot n k).part = s.part ∧ (s.queueSlot n k).cat = s.cat ∧ (s.queueSlot n k).ports = s.ports ∧
    (s.queueSlot n k).ple = s.ple ∧ (s.queueSlot n k).cop = s.cop ∧ (s.queueSlot n k).cmd = s.cmd ∧
    (s.queueSlot n k).params = s.params ∧ (s.queueSlot n k).pending = s.pending := by
  simp only [State.queueSlot]; (repeat' split) <;> simp

/-- A slot is dropped (R133). -/
@[simp] theorem dropSlot_frame (s : State) (n : Nat) :
    (s.dropSlot n).part = s.part ∧ (s.dropSlot n).cat = s.cat ∧ (s.dropSlot n).exc = s.exc ∧
    (s.dropSlot n).ports = s.ports ∧ (s.dropSlot n).ple = s.ple ∧ (s.dropSlot n).cop = s.cop ∧
    (s.dropSlot n).watches = s.watches ∧ (s.dropSlot n).att = s.att ∧ (s.dropSlot n).cmd = s.cmd ∧
    (s.dropSlot n).params = s.params ∧ (s.dropSlot n).pending = s.pending := by
  simp [State.dropSlot]

/-- What a watch request leaves as it was. -/
def besideWatches (s : State) :=
  (s.part, s.cat, s.exc, s.ports, s.ple, s.ctb, s.cop, s.params, s.pending,
    s.cmd.long, s.cmd.last, s.cmd.frameErrors, s.cmd.store, s.cmd.taken)

theorem setWatch_beside (f : Frame) (s : State) : besideWatches (State.setWatch f s).1 = besideWatches s := by
  simp only [State.setWatch]; (repeat' split) <;> rfl

theorem clearWatch_beside (f : Frame) (s : State) : besideWatches (State.clearWatch f s).1 = besideWatches s := by
  simp only [State.clearWatch]; (repeat' split) <;> rfl

theorem acknowledge_beside (f : Frame) (s : State) : besideWatches (State.acknowledge f s).1 = besideWatches s := by
  simp only [State.acknowledge]; (repeat' split) <;> rfl

/-- A request whose owner reaches the watches and the attention unit alone. -/
theorem request_beside (s : State) (fits : Bool) (f : Frame) (owner : State → State × Answer)
    (h : ∀ u, besideWatches (owner u).1 = besideWatches u) :
    besideWatches (s.request .ordinary fits f owner) = besideWatches s := by
  simp only [State.request]
  split
  · rfl
  · split
    · exact (h _).trans rfl
    · rfl

/-- A watch request as the port takes it reaches the watches, the attention unit and the command port (R151). -/
theorem takeWatchRequest_beside (s t : State) (c : Instr) (h : s.takeWatchRequest c = some t) :
    besideWatches t = besideWatches s := by
  unfold State.takeWatchRequest at h
  split at h <;> simp only [Option.some.injEq, reduceCtorEq] at h <;> subst h
  · exact request_beside s _ _ _ (setWatch_beside _)
  · exact request_beside s _ _ _ (clearWatch_beside _)
  · exact request_beside s _ _ _ (acknowledge_beside _)

/-- A watch request whose turn comes first is taken in its turn. -/
theorem inTurn_of_nil (s : State) (c : Instr) (h : s.cmd.taken = []) : s.inTurn c = (s.takeWatchRequest c).getD s := by
  simp only [State.inTurn, h]

/-- A watch request that was taken ahead of its turn only gives out its bytes in its turn (R151). -/
theorem inTurn_of_cons (s : State) (c : Instr) (out : List Byte) (rest : List (List Byte)) (h : s.cmd.taken = out :: rest) :
    s.inTurn c = { s with cmd.dataOut := out, cmd.taken := rest } := by
  simp only [State.inTurn, h]

/-- What happens between two slots leaves as it was. -/
def besideRequests (s : State) :=
  (s.part, s.cat, s.exc, s.ports, s.ple, s.ctb, s.cop, s.params, s.pending,
    s.cmd.long, s.cmd.last, s.cmd.frameErrors, s.cmd.store, s.cmd.dataOut)

/-- Watch requests taken ahead of their turn (R151). -/
theorem takeAhead_beside (k : Nat) (s : State) : besideRequests (State.takeAhead k s) = besideRequests s := by
  induction k generalizing s with
  | zero => rfl
  | succ k ih =>
    simp only [State.takeAhead]
    split
    · rfl
    · rename_i t h
      obtain ⟨c, -, hc⟩ := Option.bind_eq_some_iff.1 h
      have key := takeWatchRequest_beside s t c hc
      rw [ih]
      simp only [besideWatches, besideRequests, Prod.mk.injEq] at key ⊢
      simp [key]

/-- What may happen between two slots (R151). -/
@[simp] theorem betweenSlots_frame (s : State) :
    s.betweenSlots.part = s.part ∧ s.betweenSlots.cat = s.cat ∧ s.betweenSlots.exc = s.exc ∧
    s.betweenSlots.ports = s.ports ∧ s.betweenSlots.ple = s.ple ∧ s.betweenSlots.ctb = s.ctb ∧
    s.betweenSlots.cop = s.cop ∧ s.betweenSlots.params = s.params ∧ s.betweenSlots.pending = s.pending ∧
    s.betweenSlots.cmd.long = s.cmd.long ∧ s.betweenSlots.cmd.last = s.cmd.last ∧
    s.betweenSlots.cmd.frameErrors = s.cmd.frameErrors ∧ s.betweenSlots.cmd.store = s.cmd.store ∧
    s.betweenSlots.cmd.dataOut = s.cmd.dataOut := by
  have key : besideRequests s.betweenSlots = besideRequests s := by
    simp only [State.betweenSlots]
    split
    · rfl
    · exact takeAhead_beside _ _
  simp only [besideRequests, Prod.mk.injEq] at key
  exact key

/-- Where no watch request waits, nothing falls between two slots. -/
theorem betweenSlots_of_none (s : State) (h : s.nextWaiting.bind s.takeWatchRequest = none) : s.betweenSlots = s := by
  simp only [State.betweenSlots, h]

/-- Where no watch request waits, a slot of a check or a close is queued and nothing else happens. -/
theorem queueNext_of_none (s : State) (n : Nat) (k : Completeness) (h : s.nextWaiting.bind s.takeWatchRequest = none) :
    s.queueNext n k = s.queueSlot n k := by
  rw [State.queueNext, betweenSlots_of_none s h]

/-- What the slots of a check or a close leave as it was. -/
def besideSlots (s : State) :=
  (s.part, s.cat, s.ports, s.ple, s.cop, s.params, s.pending,
    s.cmd.long, s.cmd.last, s.cmd.frameErrors, s.cmd.store, s.cmd.dataOut)

/-- A slot of a check or a close is queued (R120, R151). -/
@[simp] theorem queueNext_frame (s : State) (n : Nat) (k : Completeness) :
    (s.queueNext n k).part = s.part ∧ (s.queueNext n k).cat = s.cat ∧ (s.queueNext n k).ports = s.ports ∧
    (s.queueNext n k).ple = s.ple ∧ (s.queueNext n k).cop = s.cop ∧ (s.queueNext n k).params = s.params ∧
    (s.queueNext n k).pending = s.pending ∧ (s.queueNext n k).cmd.long = s.cmd.long ∧
    (s.queueNext n k).cmd.last = s.cmd.last ∧ (s.queueNext n k).cmd.frameErrors = s.cmd.frameErrors ∧
    (s.queueNext n k).cmd.store = s.cmd.store ∧ (s.queueNext n k).cmd.dataOut = s.cmd.dataOut := by
  simp [State.queueNext]

/-- A completion check (R119). -/
@[simp] theorem checkSlot_frame (s : State) (n : Nat) :
    (s.checkSlot n).part = s.part ∧ (s.checkSlot n).cat = s.cat ∧ (s.checkSlot n).ports = s.ports ∧
    (s.checkSlot n).ple = s.ple ∧ (s.checkSlot n).cop = s.cop ∧ (s.checkSlot n).params = s.params ∧
    (s.checkSlot n).pending = s.pending ∧ (s.checkSlot n).cmd.long = s.cmd.long ∧
    (s.checkSlot n).cmd.last = s.cmd.last ∧ (s.checkSlot n).cmd.frameErrors = s.cmd.frameErrors ∧
    (s.checkSlot n).cmd.store = s.cmd.store ∧ (s.checkSlot n).cmd.dataOut = s.cmd.dataOut := by
  simp only [State.checkSlot]; (repeat' split) <;> simp

/-- Completion checks (R119). -/
@[simp] theorem checkSlots_frame (s : State) (which : Slot → Bool) :
    (s.checkSlots which).part = s.part ∧ (s.checkSlots which).cat = s.cat ∧ (s.checkSlots which).ports = s.ports ∧
    (s.checkSlots which).ple = s.ple ∧ (s.checkSlots which).cop = s.cop ∧ (s.checkSlots which).params = s.params ∧
    (s.checkSlots which).pending = s.pending ∧ (s.checkSlots which).cmd.long = s.cmd.long ∧
    (s.checkSlots which).cmd.last = s.cmd.last ∧ (s.checkSlots which).cmd.frameErrors = s.cmd.frameErrors ∧
    (s.checkSlots which).cmd.store = s.cmd.store ∧ (s.checkSlots which).cmd.dataOut = s.cmd.dataOut := by
  have key : besideSlots (s.checkSlots which) = besideSlots s :=
    foldl_keeps besideSlots _ (fun s n => by simp [besideSlots]) _ s
  simp only [besideSlots, Prod.mk.injEq] at key
  exact key

/-- A forced close of one slot (R128). -/
@[simp] theorem closeSlot_frame (s : State) (n : Nat) :
    (s.closeSlot n).part = s.part ∧ (s.closeSlot n).cat = s.cat ∧ (s.closeSlot n).ports = s.ports ∧
    (s.closeSlot n).ple = s.ple ∧ (s.closeSlot n).cop = s.cop ∧ (s.closeSlot n).params = s.params ∧
    (s.closeSlot n).pending = s.pending ∧ (s.closeSlot n).cmd.long = s.cmd.long ∧
    (s.closeSlot n).cmd.last = s.cmd.last ∧ (s.closeSlot n).cmd.frameErrors = s.cmd.frameErrors ∧
    (s.closeSlot n).cmd.store = s.cmd.store ∧ (s.closeSlot n).cmd.dataOut = s.cmd.dataOut := by
  simp only [State.closeSlot]; (repeat' split) <;> simp

/-- A forced close (R128). -/
@[simp] theorem forcedClose_frame (s : State) (c : Ctx) :
    (s.forcedClose c).part = s.part ∧ (s.forcedClose c).cat = s.cat ∧ (s.forcedClose c).ports = s.ports ∧
    (s.forcedClose c).ple = s.ple ∧ (s.forcedClose c).cop = s.cop ∧ (s.forcedClose c).params = s.params ∧
    (s.forcedClose c).pending = s.pending ∧ (s.forcedClose c).cmd.long = s.cmd.long ∧
    (s.forcedClose c).cmd.last = s.cmd.last ∧ (s.forcedClose c).cmd.frameErrors = s.cmd.frameErrors ∧
    (s.forcedClose c).cmd.store = s.cmd.store ∧ (s.forcedClose c).cmd.dataOut = s.cmd.dataOut := by
  have key : besideSlots (s.forcedClose c) = besideSlots s :=
    foldl_keeps besideSlots _ (fun s n => by simp [besideSlots]) _ s
  simp only [besideSlots, Prod.mk.injEq] at key
  exact key

/-- Spill (R125). -/
@[simp] theorem spill_frame (s : State) (k : Nat) :
    (State.spill k s).part = s.part ∧ (State.spill k s).cat = s.cat ∧ (State.spill k s).ports = s.ports ∧
    (State.spill k s).cop = s.cop ∧ (State.spill k s).cmd = s.cmd ∧ (State.spill k s).params = s.params ∧
    (State.spill k s).pending = s.pending := by
  induction k generalizing s with
  | zero => simp [State.spill]
  | succ k ih =>
    simp only [State.spill]
    split
    · simp
    · simp [ih]

/-- An attempt opens a cell (R123). -/
@[simp] theorem openMissing_frame (s : State) (k : Commit) (cell : CellIndex) (rest : List CellIndex) (n : Nat) :
    (s.openMissing k cell rest n).part = s.part ∧ (s.openMissing k cell rest n).cat = s.cat ∧
    (s.openMissing k cell rest n).exc = s.exc ∧ (s.openMissing k cell rest n).ports = s.ports ∧
    (s.openMissing k cell rest n).cop = s.cop ∧ (s.openMissing k cell rest n).watches = s.watches ∧
    (s.openMissing k cell rest n).att = s.att ∧ (s.openMissing k cell rest n).cmd = s.cmd ∧
    (s.openMissing k cell rest n).params = s.params ∧ (s.openMissing k cell rest n).pending = s.pending := by
  simp [State.openMissing]

/-- An attempt (R123). -/
@[simp] theorem attempt_frame (s : State) :
    s.attempt.part = s.part ∧ s.attempt.cat = s.cat ∧ s.attempt.ports = s.ports ∧ s.attempt.cop = s.cop ∧
    s.attempt.cmd = s.cmd ∧ s.attempt.params = s.params ∧ s.attempt.pending = s.pending := by
  simp only [State.attempt]; (repeat' split) <;> simp [State.giveFree, State.giveMore] <;> (repeat' split) <;> simp

/-- A slot is freed (R132). -/
@[simp] theorem freeSlot_frame (s : State) (n : Nat) :
    (s.freeSlot n).part = s.part ∧ (s.freeSlot n).cat = s.cat ∧ (s.freeSlot n).ports = s.ports ∧
    (s.freeSlot n).cop = s.cop ∧ (s.freeSlot n).cmd = s.cmd ∧ (s.freeSlot n).params = s.params ∧
    (s.freeSlot n).pending = s.pending := by
  simp [State.freeSlot]

/-- A summary is fixed (R64). -/
@[simp] theorem fixSummary_frame (s : State) (c : Ctx) :
    (s.fixSummary c).part = s.part ∧ (s.fixSummary c).cat = s.cat ∧ (s.fixSummary c).ports = s.ports ∧
    (s.fixSummary c).ple = s.ple ∧ (s.fixSummary c).ctb = s.ctb ∧ (s.fixSummary c).cop = s.cop ∧
    (s.fixSummary c).watches = s.watches ∧ (s.fixSummary c).att = s.att ∧ (s.fixSummary c).cmd = s.cmd ∧
    (s.fixSummary c).params = s.params ∧ (s.fixSummary c).pending = s.pending := by
  simp [State.fixSummary]

/-- The taking of the head (R138). -/
@[simp] theorem takeHead_frame (s : State) :
    s.takeHead.part = s.part ∧ s.takeHead.cat = s.cat ∧ s.takeHead.ports = s.ports ∧ s.takeHead.ple = s.ple ∧
    s.takeHead.watches = s.watches ∧ s.takeHead.att = s.att ∧ s.takeHead.cmd = s.cmd ∧
    s.takeHead.params = s.params ∧ s.takeHead.pending = s.pending := by
  simp only [State.takeHead]; (repeat' split) <;> simp

/-- A memory error (R107, R139). -/
@[simp] theorem memoryError_frame (s : State) (n position : Nat) (e : MemoryError) :
    (s.memoryError n position e).part = s.part ∧ (s.memoryError n position e).cat = s.cat ∧
    (s.memoryError n position e).exc = s.exc ∧ (s.memoryError n position e).ports = s.ports ∧
    (s.memoryError n position e).ple = s.ple ∧ (s.memoryError n position e).cop = s.cop ∧
    (s.memoryError n position e).watches = s.watches ∧ (s.memoryError n position e).cmd = s.cmd ∧
    (s.memoryError n position e).params = s.params ∧ (s.memoryError n position e).pending = s.pending := by
  simp only [State.memoryError]; (repeat' split) <;> simp

/-- The errors of some reads (R107, R139). -/
@[simp] theorem memoryErrors_frame (s : State) (n : Nat) (found : List (Nat × MemoryError)) :
    (s.memoryErrors n found).part = s.part ∧ (s.memoryErrors n found).cat = s.cat ∧
    (s.memoryErrors n found).exc = s.exc ∧ (s.memoryErrors n found).ports = s.ports ∧
    (s.memoryErrors n found).ple = s.ple ∧ (s.memoryErrors n found).cop = s.cop ∧
    (s.memoryErrors n found).watches = s.watches ∧ (s.memoryErrors n found).cmd = s.cmd ∧
    (s.memoryErrors n found).params = s.params ∧ (s.memoryErrors n found).pending = s.pending := by
  induction found generalizing s with
  | nil => simp [State.memoryErrors]
  | cons e found ih => simpa [State.memoryErrors] using ih (s.memoryError n e.1 e.2)

/-- The end of a preparation (R139). -/
@[simp] theorem prepare_frame (s : State) (n : Nat) (found : List (Nat × MemoryError)) :
    (s.prepare n found).part = s.part ∧ (s.prepare n found).cat = s.cat ∧ (s.prepare n found).exc = s.exc ∧
    (s.prepare n found).ports = s.ports ∧ (s.prepare n found).ple = s.ple ∧
    (s.prepare n found).watches = s.watches ∧ (s.prepare n found).cmd = s.cmd ∧
    (s.prepare n found).params = s.params ∧ (s.prepare n found).pending = s.pending := by
  have h : ∀ {β : Type} (get : State → β), (∀ s (e : Nat × MemoryError), get (s.memoryError n e.1 e.2) = get s) →
      get (found.foldl (fun s e => s.memoryError n e.1 e.2) s) = get s := fun get h => foldl_keeps get _ h _ _
  simp only [State.prepare]
  refine ⟨?_, ?_, ?_, ?_, ?_, ?_, ?_, ?_, ?_⟩ <;>
    (split <;> simp only [changeSlot_part, changeSlot_cat, changeSlot_exc, changeSlot_ports, changeSlot_ple,
      changeSlot_watches, changeSlot_cmd, changeSlot_params, changeSlot_pending] <;> apply h <;> simp)

/-- A record has been sent whole (R142). -/
@[simp] theorem recordSent_frame (s : State) (n : Nat) :
    (s.recordSent n).part = s.part ∧ (s.recordSent n).cat = s.cat ∧ (s.recordSent n).ports = s.ports ∧
    (s.recordSent n).cmd = s.cmd ∧ (s.recordSent n).params = s.params ∧ (s.recordSent n).pending = s.pending := by
  simp only [State.recordSent]; (repeat' split) <;> simp

/-- A context reaches DONE (R61). -/
@[simp] theorem reachDone_frame (s : State) (c : Ctx) :
    (s.reachDone c).part = s.part ∧ (s.reachDone c).ports = s.ports ∧ (s.reachDone c).ple = s.ple ∧
    (s.reachDone c).cop = s.cop ∧ (s.reachDone c).watches = s.watches ∧ (s.reachDone c).cmd = s.cmd ∧
    (s.reachDone c).params = s.params ∧ (s.reachDone c).pending = s.pending := by
  simp [State.reachDone]

/-- An emission is cut (R146). -/
@[simp] theorem cutEmission_frame (s : State) :
    s.cutEmission.part = s.part ∧ s.cutEmission.cat = s.cat ∧ s.cutEmission.exc = s.exc ∧
    s.cutEmission.ports = s.ports ∧ s.cutEmission.ple = s.ple ∧ s.cutEmission.watches = s.watches ∧
    s.cutEmission.att = s.att ∧ s.cutEmission.cmd = s.cmd ∧ s.cutEmission.params = s.params ∧
    s.cutEmission.pending = s.pending := by
  simp only [State.cutEmission]; (repeat' split) <;> simp

/-- The end of gathering begins (R59). -/
@[simp] theorem beginEnd_frame (s : State) (c : Ctx) (k : EndCause) :
    (s.beginEnd c k).part = s.part ∧ (s.beginEnd c k).ple = s.ple ∧ (s.beginEnd c k).ctb = s.ctb ∧
    (s.beginEnd c k).cop = s.cop ∧ (s.beginEnd c k).watches = s.watches ∧ (s.beginEnd c k).att = s.att ∧
    (s.beginEnd c k).cmd = s.cmd ∧ (s.beginEnd c k).params = s.params ∧ (s.beginEnd c k).pending = s.pending := by
  simp [State.beginEnd]

/-- The natural-end check (R57). -/
@[simp] theorem naturalEnd_frame (s : State) (c : Ctx) :
    (s.naturalEnd c).part = s.part ∧ (s.naturalEnd c).ple = s.ple ∧ (s.naturalEnd c).ctb = s.ctb ∧
    (s.naturalEnd c).cop = s.cop ∧ (s.naturalEnd c).watches = s.watches ∧ (s.naturalEnd c).att = s.att ∧
    (s.naturalEnd c).cmd = s.cmd ∧ (s.naturalEnd c).params = s.params ∧ (s.naturalEnd c).pending = s.pending := by
  simp only [State.naturalEnd]; (repeat' split) <;> simp

/-- A trailer is queued (R130). -/
@[simp] theorem queueTrailer_frame (s : State) (c : Ctx) :
    (s.queueTrailer c).part = s.part ∧ (s.queueTrailer c).cat = s.cat ∧ (s.queueTrailer c).ports = s.ports ∧
    (s.queueTrailer c).ple = s.ple ∧ (s.queueTrailer c).cop = s.cop ∧ (s.queueTrailer c).watches = s.watches ∧
    (s.queueTrailer c).att = s.att ∧ (s.queueTrailer c).cmd = s.cmd ∧ (s.queueTrailer c).params = s.params ∧
    (s.queueTrailer c).pending = s.pending := by
  simp [State.queueTrailer]

/-- A context is closed (R55). -/
@[simp] theorem closeContext_frame (s : State) (c : Ctx) :
    (s.closeContext c).part = s.part ∧ (s.closeContext c).ple = s.ple ∧ (s.closeContext c).ctb = s.ctb ∧
    (s.closeContext c).cop = s.cop ∧ (s.closeContext c).watches = s.watches ∧ (s.closeContext c).att = s.att ∧
    (s.closeContext c).cmd = s.cmd ∧ (s.closeContext c).params = s.params ∧
    (s.closeContext c).pending = s.pending := by
  simp [State.closeContext]

/-- A closing edge is taken (R55). -/
@[simp] theorem takeClosing_frame (s : State) :
    s.takeClosing.part = s.part ∧ s.takeClosing.ple = s.ple ∧ s.takeClosing.ctb = s.ctb ∧
    s.takeClosing.cop = s.cop ∧ s.takeClosing.watches = s.watches ∧ s.takeClosing.cmd = s.cmd ∧
    s.takeClosing.params = s.params ∧ s.takeClosing.pending = s.pending := by
  simp only [State.takeClosing]; (repeat' split) <;> simp

/-- An opening begins (R52). -/
@[simp] theorem beginOpening_frame (s : State) :
    s.beginOpening.part = s.part ∧ s.beginOpening.cat = s.cat ∧ s.beginOpening.ports = s.ports ∧
    s.beginOpening.ple = s.ple ∧ s.beginOpening.ctb = s.ctb ∧ s.beginOpening.cop = s.cop ∧
    s.beginOpening.watches = s.watches ∧ s.beginOpening.att = s.att ∧ s.beginOpening.cmd = s.cmd ∧
    s.beginOpening.pending = s.pending := by
  simp [State.beginOpening]

/-- An opening edge is taken (R52). -/
@[simp] theorem takeOpening_frame (s : State) :
    s.takeOpening.part = s.part ∧ s.takeOpening.cat = s.cat ∧ s.takeOpening.ports = s.ports ∧
    s.takeOpening.ple = s.ple ∧ s.takeOpening.ctb = s.ctb ∧ s.takeOpening.cop = s.cop ∧
    s.takeOpening.watches = s.watches ∧ s.takeOpening.cmd = s.cmd ∧ s.takeOpening.pending = s.pending := by
  simp only [State.takeOpening]; (repeat' split) <;> simp

/-- The latched closing edge is served (R51). -/
@[simp] theorem serveClosing_frame (s : State) :
    s.serveClosing.part = s.part ∧ s.serveClosing.ple = s.ple ∧ s.serveClosing.ctb = s.ctb ∧
    s.serveClosing.cop = s.cop ∧ s.serveClosing.watches = s.watches ∧ s.serveClosing.cmd = s.cmd ∧
    s.serveClosing.params = s.params ∧ s.serveClosing.pending = s.pending := by
  simp only [State.serveClosing]; (repeat' split) <;> simp

/-- The latch is served (R51). -/
@[simp] theorem serveLatch_frame (s : State) :
    s.serveLatch.part = s.part ∧ s.serveLatch.ple = s.ple ∧ s.serveLatch.ctb = s.ctb ∧
    s.serveLatch.cop = s.cop ∧ s.serveLatch.watches = s.watches ∧ s.serveLatch.cmd = s.cmd ∧
    s.serveLatch.pending = s.pending := by
  simp only [State.serveLatch]; (repeat' split) <;> simp

/-- Step 2 of a FLUSH (R133). -/
@[simp] theorem flushQueue_frame (s : State) :
    s.flushQueue.part = s.part ∧ s.flushQueue.cat = s.cat ∧ s.flushQueue.ports = s.ports ∧
    s.flushQueue.cop = s.cop ∧ s.flushQueue.cmd = s.cmd ∧ s.flushQueue.params = s.params ∧
    s.flushQueue.pending = s.pending := by
  refine ⟨?_, ?_, ?_, ?_, ?_, ?_, ?_⟩ <;>
  · refine (foldl_keeps _ _ (fun s n => ?_) _ _).trans rfl
    simp

/-- What the reads before the cut found (R146). -/
@[simp] theorem readBeforeCut_frame (s : State) :
    s.readBeforeCut.part = s.part ∧ s.readBeforeCut.cat = s.cat ∧ s.readBeforeCut.exc = s.exc ∧
    s.readBeforeCut.ports = s.ports ∧ s.readBeforeCut.ple = s.ple ∧ s.readBeforeCut.cop = s.cop ∧
    s.readBeforeCut.watches = s.watches ∧ s.readBeforeCut.params = s.params ∧
    s.readBeforeCut.pending = s.pending := by
  simp only [State.readBeforeCut]; (repeat' split) <;> simp

/-- Steps 4 to 8 of a FLUSH (R68). -/
@[simp] theorem flushRest_frame (s : State) :
    s.flushRest.part = s.part ∧ s.flushRest.ports = s.ports ∧ s.flushRest.ple = s.ple ∧
    s.flushRest.watches = s.watches ∧ s.flushRest.params = s.params ∧ s.flushRest.pending = s.pending := by
  simp [State.flushRest]

/-- The arbiter (R92). -/
@[simp] theorem arbitrate_frame (s : State) :
    s.arbitrate.part = s.part ∧ s.arbitrate.cat = s.cat ∧ s.arbitrate.exc = s.exc ∧ s.arbitrate.ctb = s.ctb ∧
    s.arbitrate.cop = s.cop ∧ s.arbitrate.watches = s.watches ∧ s.arbitrate.att = s.att ∧
    s.arbitrate.cmd = s.cmd ∧ s.arbitrate.params = s.params ∧ s.arbitrate.pending = s.pending := by
  simp only [State.arbitrate]; (repeat' split) <;> simp

/-- A slot is pinned (R122). -/
@[simp] theorem pin_frame (s : State) (n : Nat) :
    (s.pin n).part = s.part ∧ (s.pin n).cat = s.cat ∧ (s.pin n).exc = s.exc ∧ (s.pin n).ports = s.ports ∧
    (s.pin n).ple = s.ple ∧ (s.pin n).cop = s.cop ∧ (s.pin n).watches = s.watches ∧ (s.pin n).att = s.att ∧
    (s.pin n).cmd = s.cmd ∧ (s.pin n).params = s.params ∧ (s.pin n).pending = s.pending := by
  simp [State.pin]

/-- The end of RESERVE (R102). -/
@[simp] theorem reserved_frame (s : State) :
    s.reserved.part = s.part ∧ s.reserved.cat = s.cat ∧ s.reserved.ports = s.ports ∧ s.reserved.cop = s.cop ∧
    s.reserved.cmd = s.cmd ∧ s.reserved.params = s.params ∧ s.reserved.pending = s.pending := by
  simp only [State.reserved]; (repeat' split) <;> simp

/-- The asking for touched cells (R102). -/
@[simp] theorem ask_frame (s : State) (cells : List CellIndex) :
    (State.ask cells s).part = s.part ∧ (State.ask cells s).cat = s.cat ∧ (State.ask cells s).ports = s.ports ∧
    (State.ask cells s).cop = s.cop ∧ (State.ask cells s).cmd = s.cmd ∧ (State.ask cells s).params = s.params ∧
    (State.ask cells s).pending = s.pending := by
  induction cells generalizing s with
  | nil => simp [State.ask]
  | cons cell rest ih =>
    simp only [State.ask]
    (repeat' split) <;> simp [ih]

/-- An opening completes (R114). -/
@[simp] theorem openingDone_frame (s : State) (k : Commit) (n : Nat) :
    (s.openingDone k n).part = s.part ∧ (s.openingDone k n).cat = s.cat ∧ (s.openingDone k n).ports = s.ports ∧
    (s.openingDone k n).cop = s.cop ∧ (s.openingDone k n).cmd = s.cmd ∧ (s.openingDone k n).params = s.params ∧
    (s.openingDone k n).pending = s.pending := by
  simp only [State.openingDone]; (repeat' split) <;> simp

/-- A DEFECT pixel (R94). -/
@[simp] theorem placeDefect_frame (s : State) (k : Commit) (n : Option Nat) :
    (s.placeDefect k n).part = s.part ∧ (s.placeDefect k n).cat = s.cat ∧ (s.placeDefect k n).ports = s.ports ∧
    (s.placeDefect k n).ple = s.ple ∧ (s.placeDefect k n).cop = s.cop ∧
    (s.placeDefect k n).watches = s.watches ∧ (s.placeDefect k n).att = s.att ∧
    (s.placeDefect k n).cmd = s.cmd ∧ (s.placeDefect k n).params = s.params ∧
    (s.placeDefect k n).pending = s.pending := by
  simp only [State.placeDefect]; (repeat' split) <;> simp

/-- A SATURATED pixel (R94). -/
@[simp] theorem placeSaturated_frame (s : State) (k : Commit) (xy : Option (Nat × Nat)) (n : Option Nat) :
    (s.placeSaturated k xy n).part = s.part ∧ (s.placeSaturated k xy n).cat = s.cat ∧
    (s.placeSaturated k xy n).ports = s.ports ∧ (s.placeSaturated k xy n).ple = s.ple ∧
    (s.placeSaturated k xy n).cop = s.cop ∧ (s.placeSaturated k xy n).cmd = s.cmd ∧
    (s.placeSaturated k xy n).params = s.params ∧ (s.placeSaturated k xy n).pending = s.pending := by
  simp only [State.placeSaturated]; (repeat' split) <;> simp

/-- An OFF_GRID pixel (R99). -/
@[simp] theorem placeOffGrid_frame (s : State) (k : Commit) :
    (s.placeOffGrid k).part = s.part ∧ (s.placeOffGrid k).cat = s.cat ∧ (s.placeOffGrid k).ports = s.ports ∧
    (s.placeOffGrid k).ple = s.ple ∧ (s.placeOffGrid k).ctb = s.ctb ∧ (s.placeOffGrid k).cop = s.cop ∧
    (s.placeOffGrid k).watches = s.watches ∧ (s.placeOffGrid k).att = s.att ∧ (s.placeOffGrid k).cmd = s.cmd ∧
    (s.placeOffGrid k).params = s.params ∧ (s.placeOffGrid k).pending = s.pending := by
  simp [State.placeOffGrid]

/-- A CROWDED pixel (R100). -/
@[simp] theorem placeCrowded_frame (s : State) (k : Commit) (n : Nat) :
    (s.placeCrowded k n).part = s.part ∧ (s.placeCrowded k n).cat = s.cat ∧
    (s.placeCrowded k n).ports = s.ports ∧ (s.placeCrowded k n).ple = s.ple ∧
    (s.placeCrowded k n).cop = s.cop ∧ (s.placeCrowded k n).watches = s.watches ∧
    (s.placeCrowded k n).att = s.att ∧ (s.placeCrowded k n).cmd = s.cmd ∧
    (s.placeCrowded k n).params = s.params ∧ (s.placeCrowded k n).pending = s.pending := by
  simp [State.placeCrowded]

/-- An ACCEPTED pixel (R101). -/
@[simp] theorem placeAccepted_frame (s : State) (k : Commit) (v : Version) (x : Int) (xy : Nat × Nat) (n : Nat) :
    (s.placeAccepted k v x xy n).part = s.part ∧ (s.placeAccepted k v x xy n).cat = s.cat ∧
    (s.placeAccepted k v x xy n).ports = s.ports ∧ (s.placeAccepted k v x xy n).ple = s.ple ∧
    (s.placeAccepted k v x xy n).cop = s.cop ∧ (s.placeAccepted k v x xy n).cmd = s.cmd ∧
    (s.placeAccepted k v x xy n).params = s.params ∧ (s.placeAccepted k v x xy n).pending = s.pending := by
  simp [State.placeAccepted]

/-- The accumulation step (R101, R107). -/
@[simp] theorem accumulate_frame (s : State) (k : Commit) (v : Version) (x : Int) (xy : Nat × Nat) (n : Nat) (e : Option MemoryError) :
    (s.accumulate k v x xy n e).part = s.part ∧ (s.accumulate k v x xy n e).cat = s.cat ∧
    (s.accumulate k v x xy n e).ports = s.ports ∧ (s.accumulate k v x xy n e).ple = s.ple ∧
    (s.accumulate k v x xy n e).cop = s.cop ∧ (s.accumulate k v x xy n e).cmd = s.cmd ∧
    (s.accumulate k v x xy n e).params = s.params ∧ (s.accumulate k v x xy n e).pending = s.pending := by
  simp only [State.accumulate]; (repeat' split) <;> simp

/-- A calibrated pixel on the grid (R100). -/
@[simp] theorem placeOnGrid_frame (s : State) (k : Commit) (v : Version) (xy : Nat × Nat) (n : Nat) (e : Option MemoryError) :
    (s.placeOnGrid k v xy n e).part = s.part ∧ (s.placeOnGrid k v xy n e).cat = s.cat ∧
    (s.placeOnGrid k v xy n e).ports = s.ports ∧ (s.placeOnGrid k v xy n e).ple = s.ple ∧
    (s.placeOnGrid k v xy n e).cop = s.cop ∧ (s.placeOnGrid k v xy n e).cmd = s.cmd ∧
    (s.placeOnGrid k v xy n e).params = s.params ∧ (s.placeOnGrid k v xy n e).pending = s.pending := by
  simp only [State.placeOnGrid]; (repeat' split) <;> simp

/-- One pixel (R94). -/
@[simp] theorem placePixel_frame (s : State) (k : Commit) (v : Version) (e : Option MemoryError) :
    (s.placePixel k v e).part = s.part ∧ (s.placePixel k v e).cat = s.cat ∧
    (s.placePixel k v e).ports = s.ports ∧ (s.placePixel k v e).ple = s.ple ∧
    (s.placePixel k v e).cop = s.cop ∧ (s.placePixel k v e).cmd = s.cmd ∧
    (s.placePixel k v e).params = s.params ∧ (s.placePixel k v e).pending = s.pending := by
  simp only [State.placePixel]; (repeat' split) <;> simp

/-- The progress record advances (R104). -/
@[simp] theorem advanceProgress_frame (s : State) (k : Commit) :
    (s.advanceProgress k).part = s.part ∧ (s.advanceProgress k).cat = s.cat ∧
    (s.advanceProgress k).ports = s.ports ∧ (s.advanceProgress k).ple = s.ple ∧
    (s.advanceProgress k).ctb = s.ctb ∧ (s.advanceProgress k).cop = s.cop ∧
    (s.advanceProgress k).watches = s.watches ∧ (s.advanceProgress k).att = s.att ∧
    (s.advanceProgress k).cmd = s.cmd ∧ (s.advanceProgress k).params = s.params ∧
    (s.advanceProgress k).pending = s.pending := by
  simp only [State.advanceProgress]; (repeat' split) <;> simp

/-- Step 3 of R105. -/
@[simp] theorem touchRow_frame (s : State) (k : Commit) :
    (s.touchRow k).part = s.part ∧ (s.touchRow k).cat = s.cat ∧ (s.touchRow k).exc = s.exc ∧
    (s.touchRow k).ports = s.ports ∧ (s.touchRow k).ple = s.ple ∧ (s.touchRow k).cop = s.cop ∧
    (s.touchRow k).watches = s.watches ∧ (s.touchRow k).att = s.att ∧ (s.touchRow k).cmd = s.cmd ∧
    (s.touchRow k).params = s.params ∧ (s.touchRow k).pending = s.pending := by
  simp [State.touchRow]

/-- Step 4 of R105. -/
@[simp] theorem unpin_frame (s : State) :
    s.unpin.part = s.part ∧ s.unpin.cat = s.cat ∧ s.unpin.exc = s.exc ∧ s.unpin.ports = s.ports ∧
    s.unpin.ple = s.ple ∧ s.unpin.cop = s.cop ∧ s.unpin.watches = s.watches ∧ s.unpin.att = s.att ∧
    s.unpin.cmd = s.cmd ∧ s.unpin.params = s.params ∧ s.unpin.pending = s.pending := by
  simp [State.unpin]

/-- The steps of R105. -/
@[simp] theorem advanceCells_frame (s : State) (k : Commit) :
    (s.advanceCells k).part = s.part ∧ (s.advanceCells k).cat = s.cat ∧ (s.advanceCells k).ports = s.ports ∧
    (s.advanceCells k).ple = s.ple ∧ (s.advanceCells k).cop = s.cop ∧
    (s.advanceCells k).cmd.long = s.cmd.long ∧ (s.advanceCells k).cmd.last = s.cmd.last ∧
    (s.advanceCells k).cmd.frameErrors = s.cmd.frameErrors ∧ (s.advanceCells k).cmd.store = s.cmd.store ∧
    (s.advanceCells k).cmd.dataOut = s.cmd.dataOut ∧ (s.advanceCells k).params = s.params ∧ (s.advanceCells k).pending = s.pending := by
  simp [State.advanceCells]

/-- The steps of R87. -/
@[simp] theorem acceptStrip_frame (s : State) (k : Commit) :
    (s.acceptStrip k).part = s.part ∧ (s.acceptStrip k).ple = s.ple ∧ (s.acceptStrip k).ctb = s.ctb ∧
    (s.acceptStrip k).cop = s.cop ∧ (s.acceptStrip k).watches = s.watches ∧ (s.acceptStrip k).att = s.att ∧
    (s.acceptStrip k).cmd = s.cmd ∧ (s.acceptStrip k).params = s.params ∧ (s.acceptStrip k).pending = s.pending := by
  simp [State.acceptStrip]

/-- A commit completes (R108). -/
@[simp] theorem completeCommit_frame (s : State) (k : Commit) :
    (s.completeCommit k).part = s.part ∧ (s.completeCommit k).ctb = s.ctb ∧ (s.completeCommit k).cop = s.cop ∧
    (s.completeCommit k).watches = s.watches ∧ (s.completeCommit k).att = s.att ∧
    (s.completeCommit k).cmd = s.cmd ∧ (s.completeCommit k).params = s.params ∧
    (s.completeCommit k).pending = s.pending := by
  simp [State.completeCommit]

/-- A port may come UP (R71). -/
@[simp] theorem tryUp_frame (s : State) (p : Fin 4) :
    (s.tryUp p).part = s.part ∧ (s.tryUp p).cat = s.cat ∧ (s.tryUp p).exc = s.exc ∧ (s.tryUp p).ple = s.ple ∧
    (s.tryUp p).ctb = s.ctb ∧ (s.tryUp p).cop = s.cop ∧ (s.tryUp p).watches = s.watches ∧
    (s.tryUp p).att = s.att ∧ (s.tryUp p).cmd = s.cmd ∧ (s.tryUp p).params = s.params ∧
    (s.tryUp p).pending = s.pending := by
  simp only [State.tryUp]; (repeat' split) <;> simp

/-- A header is refused (R81). -/
@[simp] theorem refuseHeader_frame (s : State) (p : Fin 4) (h : Header) (k : VerdictCode) :
    (s.refuseHeader p h k).part = s.part ∧ (s.refuseHeader p h k).cat = s.cat ∧
    (s.refuseHeader p h k).ple = s.ple ∧ (s.refuseHeader p h k).ctb = s.ctb ∧
    (s.refuseHeader p h k).cop = s.cop ∧ (s.refuseHeader p h k).watches = s.watches ∧
    (s.refuseHeader p h k).att = s.att ∧ (s.refuseHeader p h k).cmd = s.cmd ∧
    (s.refuseHeader p h k).params = s.params ∧ (s.refuseHeader p h k).pending = s.pending := by
  simp [State.refuseHeader]

/-- A header is accepted (R80). -/
@[simp] theorem acceptHeader_frame (s : State) (p : Fin 4) (b : Fin 2) (t : Strip) :
    (s.acceptHeader p b t).part = s.part ∧ (s.acceptHeader p b t).exc = s.exc ∧
    (s.acceptHeader p b t).ple = s.ple ∧ (s.acceptHeader p b t).ctb = s.ctb ∧
    (s.acceptHeader p b t).cop = s.cop ∧ (s.acceptHeader p b t).watches = s.watches ∧
    (s.acceptHeader p b t).att = s.att ∧ (s.acceptHeader p b t).cmd = s.cmd ∧
    (s.acceptHeader p b t).params = s.params ∧ (s.acceptHeader p b t).pending = s.pending := by
  simp [State.acceptHeader]

/-- A header is taken (R76, R77). -/
@[simp] theorem takeHeader_frame (s : State) (p : Fin 4) (h : Header) (ws : List Word) :
    (s.takeHeader p h ws).part = s.part ∧ (s.takeHeader p h ws).ple = s.ple ∧
    (s.takeHeader p h ws).ctb = s.ctb ∧ (s.takeHeader p h ws).cop = s.cop ∧
    (s.takeHeader p h ws).watches = s.watches ∧ (s.takeHeader p h ws).cmd = s.cmd ∧
    (s.takeHeader p h ws).params = s.params ∧ (s.takeHeader p h ws).pending = s.pending := by
  simp only [State.takeHeader]; (repeat' split) <;> simp

/-- The strip being received is broken (R82). -/
@[simp] theorem breakReceiving_frame (s : State) (p : Fin 4) :
    (s.breakReceiving p).part = s.part ∧ (s.breakReceiving p).ple = s.ple ∧ (s.breakReceiving p).ctb = s.ctb ∧
    (s.breakReceiving p).cop = s.cop ∧ (s.breakReceiving p).watches = s.watches ∧
    (s.breakReceiving p).cmd = s.cmd ∧ (s.breakReceiving p).params = s.params ∧
    (s.breakReceiving p).pending = s.pending := by
  simp only [State.breakReceiving]; (repeat' split) <;> simp

/-- A ROW is taken (R82). -/
@[simp] theorem takeRow_frame (s : State) (p : Fin 4) (ws : List Word) :
    (s.takeRow p ws).part = s.part ∧ (s.takeRow p ws).ple = s.ple ∧ (s.takeRow p ws).ctb = s.ctb ∧
    (s.takeRow p ws).cop = s.cop ∧ (s.takeRow p ws).watches = s.watches ∧ (s.takeRow p ws).cmd = s.cmd ∧
    (s.takeRow p ws).params = s.params ∧ (s.takeRow p ws).pending = s.pending := by
  simp only [State.takeRow]; (repeat' split) <;> simp

/-- A strip ends (R83). -/
@[simp] theorem endStrip_frame (s : State) (p : Fin 4) (b : Fin 2) (t : Strip) (w : Word) :
    (s.endStrip p b t w).part = s.part ∧ (s.endStrip p b t w).ple = s.ple ∧ (s.endStrip p b t w).ctb = s.ctb ∧
    (s.endStrip p b t w).cop = s.cop ∧ (s.endStrip p b t w).watches = s.watches ∧
    (s.endStrip p b t w).cmd = s.cmd ∧ (s.endStrip p b t w).params = s.params ∧
    (s.endStrip p b t w).pending = s.pending := by
  simp only [State.endStrip]; (repeat' split) <;> simp

/-- A STRIP END is taken (R83). -/
@[simp] theorem takeEnd_frame (s : State) (p : Fin 4) (w : Word) :
    (s.takeEnd p w).part = s.part ∧ (s.takeEnd p w).ctb = s.ctb ∧ (s.takeEnd p w).cop = s.cop ∧
    (s.takeEnd p w).watches = s.watches ∧ (s.takeEnd p w).cmd = s.cmd ∧ (s.takeEnd p w).params = s.params ∧
    (s.takeEnd p w).pending = s.pending := by
  simp only [State.takeEnd]; (repeat' split) <;> simp

/-- A port follows LINK_ENABLE (R71). -/
@[simp] theorem followLink_frame (s : State) (p : Fin 4) :
    (s.followLink p).part = s.part ∧ (s.followLink p).exc = s.exc ∧ (s.followLink p).ple = s.ple ∧
    (s.followLink p).ctb = s.ctb ∧ (s.followLink p).cop = s.cop ∧ (s.followLink p).watches = s.watches ∧
    (s.followLink p).cmd = s.cmd ∧ (s.followLink p).params = s.params ∧ (s.followLink p).pending = s.pending := by
  simp only [State.followLink]; (repeat' split) <;> simp

/-- The further effects of a write (R171). -/
@[simp] theorem afterWrite_frame (s : State) (code : Nat) :
    (s.afterWrite code).part = s.part ∧ (s.afterWrite code).cmd = s.cmd ∧
    (s.afterWrite code).params = s.params ∧ (s.afterWrite code).pending = s.pending := by
  simp only [State.afterWrite]
  (repeat' split) <;> simp [List.foldl]

/-- A PENDING entry becomes VACANT (R14). -/
@[simp] theorem vacate_frame (s : State) (g : Nat) :
    (s.vacate g).part = s.part ∧ (s.vacate g).exc = s.exc ∧ (s.vacate g).ports = s.ports ∧
    (s.vacate g).ple = s.ple ∧ (s.vacate g).ctb = s.ctb ∧ (s.vacate g).cop = s.cop ∧
    (s.vacate g).watches = s.watches ∧ (s.vacate g).att = s.att ∧ (s.vacate g).cmd = s.cmd ∧
    (s.vacate g).params = s.params ∧ (s.vacate g).pending = s.pending := by
  simp [State.vacate]

/-- The third step of a batch application (R45). -/
@[simp] theorem withdrawMembers_frame (s : State) (gs : List Nat) :
    (s.withdrawMembers gs).part = s.part ∧ (s.withdrawMembers gs).ple = s.ple ∧
    (s.withdrawMembers gs).cop = s.cop ∧ (s.withdrawMembers gs).cmd.long = s.cmd.long ∧
    (s.withdrawMembers gs).cmd.last = s.cmd.last ∧ (s.withdrawMembers gs).cmd.frameErrors = s.cmd.frameErrors ∧
    (s.withdrawMembers gs).cmd.store = s.cmd.store ∧ (s.withdrawMembers gs).cmd.dataOut = s.cmd.dataOut ∧
    (s.withdrawMembers gs).params = s.params ∧ (s.withdrawMembers gs).pending = s.pending := by
  simp [State.withdrawMembers]

/-- The fourth step of a batch application (R46). -/
@[simp] theorem vacateMembers_frame (s : State) (gs : List Nat) :
    (s.vacateMembers gs).part = s.part ∧ (s.vacateMembers gs).exc = s.exc ∧
    (s.vacateMembers gs).ports = s.ports ∧ (s.vacateMembers gs).ple = s.ple ∧
    (s.vacateMembers gs).ctb = s.ctb ∧ (s.vacateMembers gs).cop = s.cop ∧
    (s.vacateMembers gs).watches = s.watches ∧ (s.vacateMembers gs).cmd = s.cmd ∧
    (s.vacateMembers gs).params = s.params ∧ (s.vacateMembers gs).pending = s.pending := by
  simp [State.vacateMembers]

end Sys2Proof.Laws
end

