-- ==== Sys2Proof/Laws/Geometry.lean ====
section
/-! SUPPORT. The arithmetic of positions: the interval test of a row against a cell is the pixel-by-pixel
test of R116, roundings, and the range of calibrated values. -/

namespace Sys2Proof.Laws

open Sys2Proof.Machine

/-- A column lies in the span exactly when its position lies in the range. -/
theorem columnSpan_iff (a step lo hi n c : Int) (h0 : 0 ≤ c) (hn : c < n) :
    ((columnSpan a step lo hi n).1 ≤ c ∧ c ≤ (columnSpan a step lo hi n).2) ↔ lo ≤ a + c * step ∧ a + c * step < hi := by
  unfold columnSpan
  split
  · rename_i hs
    rw [Int.le_ediv_iff_mul_le hs, neg_le, Int.le_ediv_iff_mul_le hs, neg_mul]
    constructor <;> rintro ⟨h1, h2⟩ <;> constructor <;> omega
  · split
    · rename_i hs
      have hs' : 0 < -step := by omega
      rw [Int.le_ediv_iff_mul_le hs', neg_le, Int.le_ediv_iff_mul_le hs', neg_mul_neg, mul_neg]
      constructor <;> rintro ⟨h1, h2⟩ <;> constructor <;> omega
    · have hs : step = 0 := by omega
      subst hs
      split
      · simp_all
      · simp_all; omega

/-- The coordinate of a position lies in a cell's 64 sky pixels exactly when the shifted position lies in
the cell's range. -/
theorem skyCoord_cell (p : Int) (k : Nat) :
    (64 * (k : Int) ≤ skyCoord p ∧ skyCoord p ≤ 64 * (k : Int) + 63) ↔
      (k : Int) * 4194304 ≤ p + 32768 ∧ p + 32768 < ((k : Int) + 1) * 4194304 := by
  unfold skyCoord
  omega

/-- A pixel's cell lies on the sky grid (R99). -/
theorem pixelCell_onGrid (v : Version) (r c : Nat) (cell : CellIndex) (h : v.pixelCell r c = some cell) :
    cell.cx ≤ 1023 ∧ cell.cy ≤ 1023 := by
  simp only [Version.pixelCell, Version.skyPixel] at h
  generalize skyCoord (v.posX r c) = x at h
  generalize skyCoord (v.posY r c) = y at h
  split at h
  · simp only [Option.map_some, cellOf, Option.some.injEq] at h
    subst h
    constructor <;> simp only <;> omega
  · simp at h

/-- A pixel falls into a cell of the grid exactly when both coordinates lie in the cell's square (R99). -/
theorem pixelCell_eq_some (v : Version) (r c : Nat) (cell : CellIndex) (hx : cell.cx < 1024) (hy : cell.cy < 1024) :
    v.pixelCell r c = some cell ↔
      (64 * (cell.cx : Int) ≤ skyCoord (v.posX r c) ∧ skyCoord (v.posX r c) ≤ 64 * (cell.cx : Int) + 63) ∧
      (64 * (cell.cy : Int) ≤ skyCoord (v.posY r c) ∧ skyCoord (v.posY r c) ≤ 64 * (cell.cy : Int) + 63) := by
  obtain ⟨cx, cy⟩ := cell
  simp only [Version.pixelCell, Version.skyPixel] at *
  generalize skyCoord (v.posX r c) = x
  generalize skyCoord (v.posY r c) = y
  split
  · rename_i h
    simp only [Option.map_some, cellOf, Option.some.injEq, CellIndex.mk.injEq]
    omega
  · rename_i h
    simp only [Option.map_none, reduceCtorEq, false_iff]
    omega

/-- The interval test of a row against a cell is the pixel-by-pixel test of R116, for every cell: one that is not
on the sky grid is reached by neither. -/
theorem rowReaches_iff (v : Version) (cell : CellIndex) (r : Nat) :
    v.rowReaches cell r = true ↔ ∃ c, c < v.cols ∧ v.pixelCell r c = some cell := by
  by_cases grid : cell.cx ≤ 1023 ∧ cell.cy ≤ 1023
  swap
  · constructor
    · intro h
      simp only [Version.rowReaches, Bool.and_eq_true, decide_eq_true_eq] at h
      exact absurd h.1 grid
    · rintro ⟨c, -, h⟩
      exact absurd (pixelCell_onGrid v r c cell h) grid
  have hx : cell.cx < 1024 := by omega
  have hy : cell.cy < 1024 := by omega
  simp only [Version.rowReaches, Bool.and_eq_true, decide_eq_true_eq, grid, true_and]
  generalize hX : columnSpan _ v.colStepX _ _ _ = X
  generalize hY : columnSpan _ v.colStepY _ _ _ = Y
  have key : ∀ c : Nat, c < v.cols →
      (v.pixelCell r c = some cell ↔ (X.1 ≤ c ∧ (c : Int) ≤ X.2) ∧ (Y.1 ≤ c ∧ (c : Int) ≤ Y.2)) := by
    intro c hc
    rw [pixelCell_eq_some v r c cell hx hy, ← hX, ← hY, columnSpan_iff _ _ _ _ _ _ (by omega) (by omega),
      columnSpan_iff _ _ _ _ _ _ (by omega) (by omega), skyCoord_cell, skyCoord_cell]
    simp only [Version.posX, Version.posY]
    constructor <;> rintro ⟨⟨h1, h2⟩, h3, h4⟩ <;> refine ⟨⟨?_, ?_⟩, ?_, ?_⟩ <;> omega
  constructor
  · intro h
    obtain ⟨c, hc⟩ : ∃ c : Nat, (c : Int) = max 0 (max X.1 Y.1) := ⟨(max 0 (max X.1 Y.1)).toNat, by omega⟩
    refine ⟨c, by omega, (key c (by omega)).2 ?_⟩
    omega
  · rintro ⟨c, hc, h⟩
    have := (key c hc).1 h
    omega

/-- A calibrated value stays in the range of R97. -/
theorem calibrate_range (v : Version) (c p : Nat) :
    -Config.valueMax ≤ v.calibrate c p ∧ v.calibrate c p ≤ Config.valueMax := by
  have h : (-Config.valueMax : Int) ≤ Config.valueMax := by decide
  simp only [Version.calibrate, clampValue]
  constructor
  · exact le_max_left _ _
  · exact max_le h (min_le_left _ _)

end Sys2Proof.Laws
end

