-- ==== Sys2Proof/Laws/Requests.lean ====
section
/-! SUPPORT. What every request has in common, said once: turned away while STARTING, turned away for its
length, or taken and answered by its owner. -/

namespace Sys2Proof.Laws

open Sys2Proof.Machine

/-- A request the part does not take while STARTING (R164). -/
theorem request_starting (s : State) (k : RequestClass) (fits : Bool) (f : Frame) (owner : State → State × Answer)
    (h : s.part = .starting) (hk : k ≠ .always) :
    s.request k fits f owner = (s.clockOut f.length).place f.tag (.refuse .starting) := by
  simp only [State.request]
  exact if_pos ⟨h, hk⟩

/-- A request whose payload length does not fit (R164). -/
theorem request_misfit (s : State) (k : RequestClass) (f : Frame) (owner : State → State × Answer)
    (h : s.part = .ready ∨ k = .always) :
    s.request k false f owner = ((s.clockOut f.length).cancelFor k).place f.tag (.invalid 47) := by
  have h' : ¬((s.clockOut f.length).part = .starting ∧ k ≠ .always) := by
    rintro ⟨a, b⟩
    cases h with
    | inl h => exact absurd (show s.part = .starting from a) (by rw [h]; decide)
    | inr h => exact b h
  simp only [State.request]
  rw [if_neg h']
  simp

/-- A request that is taken (R164). -/
theorem request_taken (s : State) (k : RequestClass) (f : Frame) (owner : State → State × Answer)
    (h : s.part = .ready ∨ k = .always) :
    s.request k true f owner =
      (owner ((s.clockOut f.length).cancelFor k)).1.place f.tag (owner ((s.clockOut f.length).cancelFor k)).2 := by
  have h' : ¬((s.clockOut f.length).part = .starting ∧ k ≠ .always) := by
    rintro ⟨a, b⟩
    cases h with
    | inl h => exact absurd (show s.part = .starting from a) (by rw [h]; decide)
    | inr h => exact b h
  simp only [State.request]
  rw [if_neg h']
  simp

/-- A reply placed in a part whose clocking and cursor are already done is the reply slot alone. -/
theorem place_eq (s : State) (tag : Byte) (a : Answer) :
    s.place tag a = { s with cmd := { s.cmd with replySlot := some { status := a.status, tag := tag, payload := a.payload } } } :=
  rfl

end Sys2Proof.Laws
end

