-- ==== Sys2Proof/Laws/Table.lean ====
section
/-! SUPPORT. Keyed lists in canonical form and cell memory: every operation keeps the form, and what a read
gives after a write. -/

namespace Sys2Proof.Laws

open Sys2Proof.Machine

variable {α : Type}

/-- The canonical form as Mathlib's order on the numbers. -/
theorem table_wf_iff (t : Table α) : Table.wf t = true ↔ (t.map Prod.fst).Pairwise (· < ·) := by
  rw [← List.isChain_iff_pairwise]
  induction t with
  | nil => simp [Table.wf]
  | cons e t ih =>
    cases t with
    | nil => simp [Table.wf]
    | cons e' t => simp [Table.wf, ih]

/-- The form of a list is that of its tail, below its head. -/
theorem table_wf_cons (e : Nat × α) (t : Table α) :
    Table.wf (e :: t) = true ↔ (∀ x ∈ t, e.1 < x.1) ∧ Table.wf t = true := by
  rw [table_wf_iff, table_wf_iff]
  simp

/-- The numbers a write lists are those listed before, and the one written. -/
theorem mem_fst_write (t : Table α) (k : Nat) (a : α) (x : Nat × α) (h : x ∈ Table.write t k a) :
    x.1 = k ∨ x ∈ t := by
  induction t with
  | nil => simp_all [Table.write]
  | cons e t ih =>
    simp only [Table.write] at h
    split at h
    · rcases List.mem_cons.1 h with h | h <;> simp_all
    · split at h
      · rcases List.mem_cons.1 h with h | h <;> simp_all
      · rcases List.mem_cons.1 h with h | h
        · simp_all
        · rcases ih h with h | h <;> simp_all

/-- A write keeps the canonical form. -/
theorem table_wf_write (t : Table α) (k : Nat) (a : α) (h : Table.wf t = true) :
    Table.wf (Table.write t k a) = true := by
  induction t with
  | nil => rfl
  | cons e t ih =>
    obtain ⟨h1, h2⟩ := (table_wf_cons e t).1 h
    simp only [Table.write]
    split
    · rename_i hk
      refine (table_wf_cons _ _).2 ⟨?_, h⟩
      intro x hx
      rcases List.mem_cons.1 hx with hx | hx
      · subst hx; exact hk
      · exact Nat.lt_trans hk (h1 x hx)
    · split
      · rename_i _ hk
        subst hk
        exact (table_wf_cons _ _).2 ⟨h1, h2⟩
      · rename_i hk1 hk2
        refine (table_wf_cons _ _).2 ⟨?_, ih h2⟩
        intro x hx
        rcases mem_fst_write t k a x hx with hx | hx
        · show e.1 < x.1
          have := hk1; have := hk2; omega
        · exact h1 x hx

/-- A list filtered keeps the canonical form. -/
theorem table_wf_filter (t : Table α) (p : Nat × α → Bool) (h : Table.wf t = true) :
    Table.wf (t.filter p) = true := by
  rw [table_wf_iff] at h ⊢
  exact (List.pairwise_map.1 h).filter p |> List.pairwise_map.2

/-- Removing a number keeps the canonical form. -/
theorem table_wf_remove (t : Table α) (k : Nat) (h : Table.wf t = true) : Table.wf (Table.remove t k) = true :=
  table_wf_filter t _ h

/-- Changing records keeps the canonical form. -/
theorem table_wf_map {β : Type} (t : Table α) (f : Nat × α → β) (h : Table.wf t = true) :
    Table.wf (t.map fun e => (e.1, f e)) = true := by
  rw [table_wf_iff] at h ⊢
  simpa [List.map_map, Function.comp_def] using h

/-- Changing one record keeps the canonical form. -/
theorem table_wf_change (t : Table α) (k : Nat) (f : α → α) (h : Table.wf t = true) :
    Table.wf (Table.change t k f) = true :=
  table_wf_map t (fun e => if e.1 = k then f e.2 else e.2) h

/-- What a read gives after a write. -/
theorem read_write (t : Table α) (k n : Nat) (a : α) (h : Table.wf t = true) :
    Table.read (Table.write t k a) n = if n = k then some a else Table.read t n := by
  induction t with
  | nil =>
    simp only [Table.write, Table.read]
    by_cases hn : n = k
    · simp [hn]
    · simp [hn, Ne.symm hn]
  | cons e t ih =>
    obtain ⟨h1, h2⟩ := (table_wf_cons e t).1 h
    simp only [Table.write]
    split
    · simp only [Table.read]
      by_cases hn : n = k
      · simp [hn]
      · simp [hn, Ne.symm hn]
    · split
      · rename_i _ hk
        simp only [Table.read]
        by_cases hn : n = k
        · simp [hn]
        · have : ¬ e.1 = n := by omega
          simp [hn, Ne.symm hn, this]
      · rename_i hk1 hk2
        simp only [Table.read, ih h2]
        by_cases hn : n = k
        · have : ¬ e.1 = n := by omega
          simp [hn, Ne.symm hk2]
        · simp [hn]

/-- A number below every one listed reads as nothing. -/
theorem read_eq_none_of_lt (t : Table α) (n : Nat) (h : ∀ x ∈ t, n < x.1) : Table.read t n = none := by
  induction t with
  | nil => rfl
  | cons e t ih =>
    have h1 := h e (by simp)
    simp only [Table.read]
    rw [if_neg (by omega)]
    exact ih fun x hx => h x (by simp [hx])

/-- What a read gives after a filter on the numbers. -/
theorem read_filter_fst (t : Table α) (p : Nat → Bool) (n : Nat) (h : Table.wf t = true) :
    Table.read (t.filter fun e => p e.1) n = if p n then Table.read t n else none := by
  induction t with
  | nil => simp [Table.read]
  | cons e t ih =>
    obtain ⟨h1, h2⟩ := (table_wf_cons e t).1 h
    simp only [List.filter_cons, Table.read]
    by_cases hp : p e.1
    · simp only [hp, if_true, Table.read]
      by_cases hn : e.1 = n
      · subst hn; simp [hp]
      · simp [hn, ih h2]
    · simp only [hp, Bool.false_eq_true, if_false]
      rw [ih h2]
      by_cases hn : e.1 = n
      · subst hn; simp [hp]
      · simp [hn]

/-- What a read gives after one record is changed. -/
theorem read_change (t : Table α) (k n : Nat) (f : α → α) :
    Table.read (Table.change t k f) n = if n = k then (Table.read t n).map f else Table.read t n := by
  induction t with
  | nil => simp [Table.change, Table.read]
  | cons e t ih =>
    simp only [Table.change, List.map_cons, Table.read] at ih ⊢
    by_cases hn : e.1 = n
    · subst hn
      by_cases hk : e.1 = k <;> simp [hk]
    · simp only [hn, if_false]
      exact ih

/-- Memory in canonical form is a canonical list of records that are not clear. -/
theorem memory_wf_iff (m : Memory) :
    Memory.wf m = true ↔ Table.wf m = true ∧ ∀ e ∈ m, e.2 ≠ SkyRecord.clear := by
  simp [Memory.wf]

/-- Empty memory is canonical. -/
theorem memory_wf_nil : Memory.wf [] = true := rfl

/-- Every write keeps the canonical form of memory. -/
theorem memory_wf_write (m : Memory) (a : Nat) (r : SkyRecord) (h : Memory.wf m = true) :
    Memory.wf (Memory.write m a r) = true := by
  obtain ⟨h1, h2⟩ := (memory_wf_iff m).1 h
  rw [memory_wf_iff]
  unfold Memory.write
  split
  · exact ⟨table_wf_remove m a h1, fun e he => h2 e (List.mem_filter.1 he).1⟩
  · rename_i hr
    refine ⟨table_wf_write m a r h1, ?_⟩
    clear h h1
    induction m with
    | nil => intro e he; simp [Table.write] at he; subst he; exact hr
    | cons x m ih =>
      intro e he
      simp only [Table.write] at he
      have hm : ∀ e ∈ m, e.2 ≠ SkyRecord.clear := fun e he => h2 e (by simp [he])
      split at he
      · rcases List.mem_cons.1 he with he | he
        · subst he; exact hr
        · exact h2 e he
      · split at he
        · rcases List.mem_cons.1 he with he | he
          · subst he; exact hr
          · exact hm e he
        · rcases List.mem_cons.1 he with he | he
          · subst he; exact h2 x (by simp)
          · exact ih hm e he

/-- Clearing a slot keeps the canonical form of memory. -/
theorem memory_wf_clearSlot (m : Memory) (n : Nat) (h : Memory.wf m = true) :
    Memory.wf (Memory.clearSlot m n) = true := by
  obtain ⟨h1, h2⟩ := (memory_wf_iff m).1 h
  rw [memory_wf_iff]
  exact ⟨table_wf_filter m _ h1, fun e he => h2 e (List.mem_filter.1 he).1⟩

/-- Memory reads back what was written, and every other record as before. -/
theorem memory_read_write (m : Memory) (a b : Nat) (r : SkyRecord) (h : Memory.wf m = true) :
    Memory.read (Memory.write m a r) b = if b = a then r else Memory.read m b := by
  obtain ⟨h1, h2⟩ := (memory_wf_iff m).1 h
  unfold Memory.read Memory.write
  split
  · rename_i hr
    have := read_filter_fst m (fun i => i != a) b h1
    simp only [Table.remove]
    rw [this]
    by_cases hb : b = a <;> simp [hb, hr]
  · rw [read_write m a b r h1]
    by_cases hb : b = a <;> simp [hb]

/-- After a slot is cleared, its records are clear and every other is as before (R112). -/
theorem memory_read_clearSlot (m : Memory) (n a : Nat) (h : Memory.wf m = true) :
    Memory.read (Memory.clearSlot m n) a = if a / Config.cellPixels = n then SkyRecord.clear else Memory.read m a := by
  obtain ⟨h1, _⟩ := (memory_wf_iff m).1 h
  unfold Memory.read Memory.clearSlot
  rw [read_filter_fst m (fun i => i / Config.cellPixels != n) a h1]
  by_cases ha : a / Config.cellPixels = n <;> simp [ha]

/-- A position of a cell lies in its slot's part of memory. -/
theorem skyAddress_slot (slot position : Nat) (h : position < Config.cellPixels) :
    skyAddress slot position / Config.cellPixels = slot := by
  simp only [skyAddress, Config.cellPixels] at *
  omega

end Sys2Proof.Laws
end

