-- ==== Sys2Proof/Safety.lean ====
section
/-! DEFINITION. What counts as a safe run. -/

namespace Sys2Proof.Machine

/-- The step goes on: it neither faults nor is refused. -/
def StepsOn (s : State) : Prop := ∃ t, step s = .next t

end Sys2Proof.Machine
end

