-- ==== Sys2Proof/Tests/Slice0.lean ====
section
/-! SUPPORT. The model's own tests: ill-formed commands the check refuses, frames written out from the manual's
formats, one small step of each command, and for every statement with hypotheses a state that meets them. -/

namespace Sys2Proof.Tests

open Sys2Proof Sys2Proof.Machine

-- One theorem at a time: each asks the kernel, and hundreds that wait for it at once exhaust the threads.
set_option Elab.async false

/-! ### Small states -/

/-- A request frame with tag 7. -/
def req (payload : List Byte) : Frame := { tag := 7, payload := payload, extra := 0 }

/-- The part right after its start-up. -/
def ready : State := { State.reset with part := .ready, cop := { State.reset.cop with state := .idle } }

/-- The outcome is a next state that passes a test. -/
def next (o : Host.Outcome State Fault Refusal) (test : State → Bool) : Bool :=
  match o with
  | .next t => test t
  | .fault _ | .refused _ => false

/-- The outcome is a next state with this reply. -/
def replies (o : Host.Outcome State Fault Refusal) (st : Status) (payload : List Byte) : Bool :=
  next o fun t => t.cmd.replySlot == some { status := st, tag := 7, payload := payload }

/-- Two rows of two pixels at sky pixels (0, 0) to (1, 1); a raw value p is calibrated to p - 100. -/
def tile : Version :=
  { rows := 2, cols := 2, originX := 0, originY := 0, colStepX := 65536, colStepY := 0, rowStepX := 0
    rowStepY := 65536, bias := 100, gain := 4096, flat := [32768], saturation := 60000, weight := 3
    defects := [{ row := 0, col := 1, stamp := 2 }] }

/-- The staging record that holds `tile`. -/
def tileStaged : Staging := Staging.ofVersion tile

/-- Segment 5, LIVE with `tile` installed at epoch 1. -/
def entry : Entry :=
  { seg := 5, state := .live, installed := [{ version := tile, epoch := 1 }], staged := none, suspect := false
    broken := 2, marker := none, member := false }

/-- A READY part with one entry at index 0. -/
def holding (e : Entry) : State := { ready with cat := { ready.cat with entries := [(0, e)], epoch := 1 } }

/-- A READY part with segment 5 LIVE. -/
def live : State := holding entry

/-- Segment 5, PENDING. -/
def pendingEntry : Entry := { entry with state := .pending, installed := [], staged := some (.version tile) }

/-- Context A with exposure 1 open for segment 5. -/
def contextIn (st : ContextState) : Context :=
  { state := st, number := 1, epoch := 1, progress := [{ seg := 5, next := 0, withdrawn := false }]
    timer := none, endCause := none, summary := Summary.start }

/-- A part with context A in a state. -/
def withA (s : State) (x : Context) : State := { s with exc := { s.exc with ctxA := x } }

/-- Exposure 1 is EXPOSING. -/
def exposing : State := withA live (contextIn .exposing)

/-- Exposure 1 is GATHERING, with its timer running. -/
def gathering : State := withA live { contextIn .gathering with timer := some 20000 }

/-- Exposure 1 is GATHERING and its end has begun. -/
def ending : State := withA live { contextIn .gathering with endCause := some .limit }

/-- An UP port. -/
def upPort : Port := { Port.reset with sync := true, up := true }

/-- A part with a port at SP0. -/
def withPort (s : State) (q : Port) : State := { s with ports := s.ports.set 0 q }

/-- The strip of row 0 of segment 5, its header received. -/
def strip : Strip :=
  { exposure := 1, seg := 5, first := 0, count := 1, ctx := .A, cols := 2, rows := []
    crc := crc32Words crc32Start [0x00010005, 0x00000001] }

/-- The same strip with its row received. -/
def fullStrip : Strip := strip.addRow [0x0100, 0x0200] [2, 0x01000200]

/-- SP0 receives a strip into buffer 0. -/
def receiving (t : Strip) : State :=
  withPort gathering { upPort with receive := .receiving, buffers := upPort.buffers.set 0 (.receiving t) }

/-- The commit of the strip. -/
def commitIn (phase : RowPhase) : Commit := { fullStrip.commit 0 0 with phase := phase }

/-- The commit with its row's pixels all placed. -/
def rowDone : Commit := { commitIn .place with col := 2, touched := [{ cx := 0, cy := 0 }] }

/-- The engine commits the strip of SP0's buffer 0. -/
def committing (k : Commit) : State :=
  { withPort gathering { upPort with buffers := upPort.buffers.set 0 (.committing fullStrip) } with
    ple := { lastServed := 0, commit := some k } }

/-- Slot 0 holds cell (0, 0) of context A. -/
def slotIn (st : SlotState) (k : Option Completeness) : Slot :=
  { state := st, ctx := .A, cell := { cx := 0, cy := 0 }, part := 1, completeness := k
    contributors := [{ seg := 5, first := 0, last := 1, state := .expected, suspect := none, pixels := 0 }]
    pixels := 0, defect := 0, saturated := 0, crowded := 0, damaged := 0, crowdedFlag := false, damagedFlag := false
    watchSet := 0, pinned := false }

/-- A part with slot 0 in use. -/
def withSlot (s : State) (e : Slot) (touch : List Nat) (queue : List QueueItem) : State :=
  { s with ctb := { s.ctb with slots := [(0, e)], touch := touch, queue := queue } }

/-- A row whose one cell is open, in PLACE. -/
def placing : State := withSlot (committing (commitIn .place)) { slotIn .opened none with pinned := true } [0] []

/-- The port of cell output in a state. -/
def withCop (s : State) (st : PortState) : State := { s with cop := { s.cop with state := st } }

/-- The header of slot 0's record. -/
def header : CellHeader := gathering.headerOf (slotIn .emitting (some .partly))

/-- Slot 0's record is being sent. -/
def sending (position : Nat) : State :=
  withCop (withSlot gathering (slotIn .emitting (some .partly)) [] []) (.sendingCell 0 header [] position false)

/-- A CLOSING context's trailer is being sent. -/
def sendingTrailer : State :=
  let s := withA live { contextIn .closing with endCause := some .ended }
  withCop s (.sendingTrailer (s.trailerOf .A) .atFirst)

/-- A long request is running. -/
def running (s : State) (k : LongKind) : State := { s with cmd := { s.cmd with long := some { kind := k, tag := 9 } } }

/-- A FLUSH is past its first step. -/
def flushing (s : State) : State := { running s .flush with exc := { s.exc with flushing := true } }

/-- A retire batch in a state, with segment 5 its member. -/
def batched (b : Batch) : State :=
  let s := holding { entry with member := true }
  { s with cat := { s.cat with batch := b } }

/-- A signature walk at a position. -/
def walking (position : Nat) : State :=
  let s := running live .signCatalogue
  { s with cat := { s.cat with sign := { Signature.begin with position := position } } }

/-! ### Well-formedness: an ill-formed command for each check -/

theorem test_payload_of_57_bytes_refused : (Instr.nop (req (List.replicate 57 0))).wellFormed = false := by decide

theorem test_good_frame_as_frame_error_refused :
    (Instr.frameError (encodeFrame 0x01 (req []))).wellFormed = false := by decide +kernel

theorem test_known_kind_as_unknown_refused : (Instr.unknownRequest 0x25 (req [])).wellFormed = false := by decide

theorem test_errors_out_of_order_refused :
    (Instr.preparationEnd [(3, .single), (3, .single)]).wellFormed = false ∧
    (Instr.preparationEnd [(4096, .single)]).wellFormed = false := by decide

/-! ### Frames and words written out from chapter 10 -/

theorem test_crc8_of_zero_byte : crc8 [0x00] = 0x42 := by decide +kernel

theorem test_nop_frame : decodeFrame [0x01, 0x07, 0x00, crc8 [0x01, 0x07, 0x00]] = .nop (req []) := by decide +kernel

theorem test_retire_frame :
    decodeFrame ([0x16, 0x07, 0x03, 0x00, 0x05, 0x02] ++ [crc8 [0x16, 0x07, 0x03, 0x00, 0x05, 0x02], 0xAA]) =
      .retire { tag := 7, payload := [0x00, 0x05, 0x02], extra := 1 } := by decide +kernel

theorem test_short_frame : decodeFrame [0x01, 0x07] = .frameError [0x01, 0x07] := by decide +kernel

theorem test_strip_header_words :
    Machine.headerOf [0x00010005, 0x00020003] = some { exposure := 1, seg := 5, first := 2, count := 3 } := by
  decide +kernel

theorem test_row_words_of_three_pixels :
    rowPixels [3, 0x00010002, 0x00030000] = some [1, 2, 3] ∧ rowPixels [3, 0x00010002] = none := by decide +kernel

theorem test_pixel_words_of_negative_value : pixelWords (some { value := -1, weight := 3 }) = [0xFFFFFFFF, 3] := by
  decide +kernel

theorem test_no_table_word_spells_a_command : decodeTableWord 8 1 = none ∧ ready.withFetchWord 8 1 = ready := by
  decide +kernel

/-! ### One step of each command -/

theorem test_nop : replies (exec (.nop (req [])) State.reset) .ok [] = true := by decide +kernel

theorem test_status : next (exec (.status (req [])) live) (fun t =>
    (t.cmd.replySlot.map fun r => r.payload.length) == some 37 && t.cmd.free == 1) = true := by decide +kernel

theorem test_putField : next (exec (.putField (req [1, 0x10, 0x00])) ready) (fun t =>
    t.cat.staging.rows == some 4096) = true ∧
    replies (exec (.putField (req [1, 0x10, 0x01])) ready) .invalid [1] = true := by decide +kernel

theorem test_clearStaging : next (exec (.clearStaging (req [])) { live with cat := { live.cat with staging := tileStaged } })
    (fun t => t.cat.staging == Staging.empty) = true := by decide +kernel

theorem test_loadStaging : next (exec (.loadStaging (req [0, 5, 1])) live) (fun t =>
    t.cat.staging == tileStaged) = true := by decide +kernel

theorem test_stageAdd : next (exec (.stageAdd (req [0, 5])) { ready with cat := { ready.cat with staging := tileStaged } })
    (fun t => t.cat.entries == [(0, { pendingEntry with broken := 0 })]) = true := by decide +kernel

theorem test_stageChange : next (exec (.stageChange (req [0, 5])) { live with cat := { live.cat with staging := tileStaged } })
    (fun t => t.cat.entries == [(0, { entry with staged := some (.version tile) })]) = true := by decide +kernel

theorem test_unstage : next (exec (.unstage (req [0, 5])) (holding pendingEntry)) (fun t => t.cat.entries == []) = true := by
  decide +kernel

theorem test_retire : next (exec (.retire (req [0, 5, 2])) live) (fun t =>
    t.cat.entries == [(0, { entry with member := true })] && t.cat.batch == .window 50) = true := by decide +kernel

theorem test_clearSuspect : next (exec (.clearSuspect (req [0, 5])) (holding { entry with suspect := true })) (fun t =>
    t.cat.entries == [(0, { entry with broken := 0 })]) = true := by decide +kernel

theorem test_commit : replies (exec (.commit (req [])) ready) .accepted [] = true ∧
    replies (exec (.commit (req [])) exposing) .deferred [] = true := by decide +kernel

theorem test_readEntry : replies (exec (.readEntry (req [0, 5, 4, 1])) live) .ok [0, 8, 1, 0, 0, 0, 1, 2] = true := by
  decide +kernel

theorem test_writeStamp : replies (exec (.writeStamp (req [2, 1, 2, 3, 4, 5, 6, 7, 8])) exposing) .inUse [] = true ∧
    next (exec (.writeStamp (req [31, 1, 2, 3, 4, 5, 6, 7, 8])) exposing) (fun t =>
      t.cat.stamps[(31 : Fin 32)].toList == [1, 2, 3, 4, 5, 6, 7, 8]) = true := by decide +kernel

theorem test_readStamp : replies (exec (.readStamp (req [2])) exposing) .ok [0, 11, 0, 0, 0, 0, 0, 0, 0, 0, 1] = true := by
  decide +kernel

theorem test_signCatalogue : next (exec (.signCatalogue (req [])) live) (fun t =>
    t.cat.sign == Signature.begin && t.cmd.long == some { kind := .signCatalogue, tag := 7 }) = true := by decide +kernel

theorem test_readSignature : replies (exec (.readSignature (req [])) (walking 6)) .ok [0, 9, 1, 0, 0, 0, 0, 0, 6] = true := by
  decide +kernel

theorem test_openExposure : replies (exec (.openExposure (req [])) live) .ok [0, 0, 1, 0, 0, 0, 2] = true := by
  decide +kernel

theorem test_closeShutter : replies (exec (.closeShutter (req [])) exposing) .ok [0, 0, 1] = true := by decide +kernel

theorem test_endExposure : next (exec (.endExposure (req [0])) exposing) (fun t =>
    t.exc.ctxA.state == .closing && t.exc.ctxA.endCause == some .ended) = true := by decide +kernel

theorem test_releaseExposure : next (exec (.releaseExposure (req [0])) (withA live (contextIn .held))) (fun t =>
    t.exc.ctxA == Context.free) = true := by decide +kernel

theorem test_readSummary : next (exec (.readSummary (req [0])) gathering) (fun t =>
    (t.cmd.store.drop 2).take 11 == [0, 1, 0, 0, 0, 1, 0xFF, 0, 0, 0, 1]) = true := by decide +kernel

theorem test_flush : replies (exec (.flush (req [])) gathering) .accepted [] = true := by decide +kernel

theorem test_readCell : replies (exec (.readCell (req [2, 0, 7])) ready) .ok [0, 5, 0, 7, 0] = true ∧
    replies (exec (.readCell (req [1, 0, 3, 255, 3, 255])) ready) .ok [0, 6, 0xFF, 0xFF, 0, 0] = true := by
  decide +kernel

theorem test_setWatch :
    next (exec (.setWatch (req [7, 2, 0, 0, 0, 9, 0, 0, 0, 9, 0xFF, 0xFF, 0xFF, 0xFF])) ready) (fun t =>
      t.watches[(7 : Fin 8)].setting ==
        some { kind := .peakAbove, x0 := 0, x1 := 9, y0 := 0, y1 := 9, threshold := -1 }) = true := by decide +kernel

theorem test_clearWatch : replies (exec (.clearWatch (req [8])) ready) .invalid [42] = true ∧
    replies (exec (.clearWatch (req [7])) ready) .ok [] = true := by decide +kernel

theorem test_readWatch : next (exec (.readWatch (req [255])) ready) (fun t => t.cmd.store.length == 2 + 8 * 27) = true := by
  decide +kernel

theorem test_setEnable : next (exec (.setEnable (req [0x01, 0xFF])) ready) (fun t =>
    t.att.enables == 0x1FF#9 && !t.att.line) = true := by decide +kernel

theorem test_acknowledge :
    next (exec (.acknowledge (req [0x00, 0x02, 0x00])) { ready with att := { flags := 0b110#9, enables := 0 } }) (fun t =>
      t.att.flags == 0b100#9) = true := by decide +kernel

theorem test_setParameter : next (exec (.setParameter (req [1, 0, 0, 0, 100])) ready) (fun t =>
    t.params.gatherLimit == 100) = true ∧
    replies (exec (.setParameter (req [1, 0, 0, 0, 99])) ready) .invalid [49] = true := by decide +kernel

theorem test_readParameter : replies (exec (.readParameter (req [9])) ready) .ok [0, 7, 9, 0, 0, 0, 15] = true := by
  decide +kernel

theorem test_readCounters : next (exec (.readCounters (req [])) placing) (fun t => t.cmd.store.length == 97) = true := by
  decide +kernel

theorem test_resetPart : replies (exec (.resetPart (req [])) gathering) .ok [0, 0, 0] = true := by decide +kernel

theorem test_readMore :
    replies (exec (.readMore (req [])) { ready with cmd := { ready.cmd with store := [0, 3, 9], cursor := some 2 } })
      .ok [9] = true := by decide +kernel

theorem test_frameError : next (exec (.frameError [1]) State.reset) (fun t => t.cmd.frameErrors == 1) = true := by
  decide +kernel

theorem test_unknownRequest : replies (exec (.unknownRequest 0 (req [])) State.reset) .unknownRequest [] = true := by
  decide +kernel

theorem test_openingEdge : next (exec .openingEdge live) (fun t =>
    t.exc.opening == some { ctx := .A, number := 1 } && t.params.nextExposure == 2) = true := by decide +kernel

theorem test_closingEdge : next (exec .closingEdge exposing) (fun t => t == gathering) = true := by decide +kernel

theorem test_pauseLine : next (exec .pauseLineRise ready) (fun t => t.cop.pause) = true ∧
    next (exec .pauseLineFall (withSlot ready (slotIn .queued (some .complete)) [] [.slot 0])) (fun t =>
      t.cop.state == .preparing 0 && t.ctb.queue == []) = true := by decide +kernel

theorem test_fullReset : next (exec .fullReset gathering) (fun t => t == State.reset) = true := by decide +kernel

theorem test_wordSyncFound : next (exec (.wordSyncFound 0) ready) (fun t => t.ports[(0 : Fin 4)].up) = true := by
  decide +kernel

theorem test_wordSyncLost : next (exec (.wordSyncLost 0) (receiving strip)) (fun t =>
    t.ports[(0 : Fin 4)] == { Port.reset with abandonedDown := 1 } && t.att.flags == 0b1000000#9) = true := by
  decide +kernel

theorem test_stripHeader : next (exec (.stripHeader 0 [0x00010005, 0x00000001]) (withPort gathering upPort)) (fun t =>
    t.ports[(0 : Fin 4)].buffers[(0 : Fin 2)] == .receiving strip) = true := by decide +kernel

theorem test_row : next (exec (.row 0 [2, 0x01000200]) (receiving strip)) (fun t =>
    t.ports[(0 : Fin 4)].buffers[(0 : Fin 2)] == .receiving fullStrip) = true := by decide +kernel

theorem test_stripEnd : next (exec (.stripEnd 0 [crc32Value fullStrip.crc]) (receiving fullStrip)) (fun t =>
    t.ple.commit == some (commitIn .reserve)) = true := by decide +kernel

theorem test_verdictSent :
    next (exec (.verdictSent 0)
      (withPort live { upPort with verdicts := [{ seg := 5, first := 1, code := .gap, next := 2 }] })) (fun t =>
        t.ports[(0 : Fin 4)].backChannel == [0x00050001, 0x0B000002]) = true := by decide +kernel

theorem test_batchWindowExpiry : next (exec .batchWindowExpiry (batched (.window 3))) (fun t =>
    t.cat.batch == .applying false) = true := by decide +kernel

theorem test_batchApplicationBegin : next (exec .batchApplicationBegin (batched (.applying false))) (fun t =>
    t.cat.batch == .applying true) = true := by decide +kernel

theorem test_batchWithdrawal : next (exec .batchWithdrawal (batched (.applying true))) (fun t =>
    t.cat.entries == [] && t.cat.batch == .closed && t.att.flags == 0b100000000#9) = true := by decide +kernel

theorem test_gatherTimerExpiry : next (exec (.gatherTimerExpiry .A) (receiving strip)) (fun t =>
    t.exc.ctxA.endCause == some .limit && t.ports[(0 : Fin 4)].receive == .discarding) = true := by decide +kernel

theorem test_forcedClose :
    next (exec (.forcedClose .A) (withCop (withSlot ending (slotIn .opened none) [0] []) (.aborting false))) (fun t =>
      t.ctb.queue == [.slot 0, .trailer .A] && t.exc.ctxA.state == .closing) = true := by decide +kernel

/-- Cells (0, 0) and (1, 0) of an ending context are OPEN, while a CLEAR WATCH waits. -/
def watched : State :=
  let s := withSlot ending (slotIn .opened none) [0, 1] []
  { withCop s (.aborting false) with
    ctb := { s.ctb with slots := [(0, slotIn .opened none), (1, { slotIn .opened none with cell := { cx := 1, cy := 0 } })] }
    watches := s.watches.set 0
      { setting := some { kind := .cellPartial, x0 := 0, x1 := 127, y0 := 0, y1 := 63, threshold := 0 }, count := 0, first := none }
    pending := [.clearWatch (req [0])] }

/-- A watch that is CLEARED between the two slots of a forced close has matched the first of them alone (R151). -/
theorem test_request_between_two_slots :
    let s := State.takeAhead 1 (watched.queueSlot 0 .partly)
    let t := s.queueSlot 1 .partly
    s.watches[(0 : Fin 8)] = Watch.cleared ∧ s.cmd.taken.length = 1 ∧ t.ctb.queue = [.slot 0, .slot 1] ∧
    (t.ctb.slots.map fun e => e.2.watchSet) = [1, 0] ∧ t.exc.ctxA.summary.watchHits = 1 ∧
    next (step t) (fun u => u.cmd.taken == [] && u.pending == [] &&
      u.cmd.replySlot == some { status := .ok, tag := 7, payload := [] }) = true := by decide +kernel

theorem test_openingComplete :
    next (exec .openingComplete { live with exc := { live.exc with opening := some { ctx := .A, number := 1 } } }) (fun t =>
      t.exc.ctxA == { contextIn .exposing with epoch := 2 }) = true := by decide +kernel

theorem test_commitBoundaryComplete : next (exec .commitBoundaryComplete (running (holding pendingEntry) .commit)) (fun t =>
    t.cat.entries == [(0, { entry with installed := [{ version := tile, epoch := 2 }], broken := 0 })]) = true := by
  decide +kernel

theorem test_signatureEntryStep : next (exec .signatureEntryStep (walking 0)) (fun t => t.cat.sign.position == 6) = true := by
  decide +kernel

theorem test_signatureStampStep : next (exec .signatureStampStep (walking 6)) (fun t =>
    t.cat.sign.status == .signed && t.cmd.long == none) = true := by decide +kernel

theorem test_flushFirstStep :
    next (exec .flushFirstStep (running (withSlot gathering (slotIn .queued (some .complete)) [] [.slot 0]) .flush))
      (fun t => t.ctb.queue == [] && t.ctb.slots == [] && t.exc.ctxA.timer == none) = true := by decide +kernel

theorem test_flushComplete : next (exec .flushComplete (flushing (sending 3))) (fun t =>
    t.ctb.slots == [] && t.cop.state == .aborting false && t.exc.ctxA == Context.free && t.cmd.long == none) = true := by
  decide +kernel

theorem test_rowReserve : next (exec .rowReserve (committing (commitIn .reserve))) (fun t =>
    (t.ple.commit.map fun k => k.opening) == some (some 0) && t.ctb.touch == [0]) = true := by decide +kernel

theorem test_cellOpeningComplete :
    next (exec .cellOpeningComplete (committing { commitIn .reserve with opening := some 0 })) (fun t =>
      (t.ple.commit.map fun k => k.phase) == some .place) = true := by decide +kernel

theorem test_pixelPlace : next (exec (.pixelPlace none) placing) (fun t =>
    Memory.read t.ctb.memory 0 == { sum := 468, weight := 3, damaged := false } &&
      t.exc.ctxA.summary.pixels == 1) = true := by decide +kernel

theorem test_rowAdvance : next (exec .rowAdvance (committing rowDone)) (fun t =>
    t.ple.commit == none && t.exc.ctxA.progress == [{ seg := 5, next := 1, withdrawn := false }] &&
      t.ports[(0 : Fin 4)].verdicts == [{ seg := 5, first := 0, code := .accepted, next := 1 }]) = true := by
  decide +kernel

theorem test_preparationEnd :
    next (exec (.preparationEnd [(0, .uncorrectable)])
      (withCop (withSlot gathering (slotIn .emitting (some .partly)) [] []) (.preparing 0))) (fun t =>
        t.att.flags == 0b10000000#9 && Memory.read t.ctb.memory 0 == { sum := 0, weight := 0, damaged := true }) = true := by
  decide +kernel

theorem test_unitSent : next (exec .unitSent (sending 64)) (fun t =>
    t.ctb.slots == [] && t.cop.state == .idle && t.exc.ctxA.summary.cellsPartial == 1) = true := by decide +kernel

theorem test_trailerSent : next (exec .trailerSent sendingTrailer) (fun t =>
    t.exc.ctxA == Context.free && t.att.flags == 1#9 && t.cop.state == .idle) = true := by decide +kernel

theorem test_trailerSent_held : next (exec .trailerSent (withCop live (.sendingTrailer (live.trailerOf .A) .held))) (fun t =>
    t.cop.state == .sendingTrailer (live.trailerOf .A) .held) = true := by decide +kernel

theorem test_abortMarkerSent : next (exec .abortMarkerSent (withCop ready (.aborting false))) (fun t =>
    t.cop == { state := .idle, pause := false, sent := some .abortMarker }) = true := by decide +kernel

theorem test_startupClearingEnd : next (exec .startupClearingEnd State.reset) (fun t => t == ready) = true := by
  decide +kernel

/-! ### States that meet the statements' hypotheses -/

/-- A table that lists every number of a range lists each of them. -/
theorem read_range {α : Type} (f : Nat → α) (n k a : Nat) (h : a ≤ k) (h' : k < a + n) :
    Table.read ((List.range' a n).map fun i => (i, f i)) k = some (f k) := by
  induction n generalizing a with
  | zero => omega
  | succ n ih =>
    simp only [List.range'_succ, List.map_cons, Table.read]
    split
    · rename_i he; rw [he]
    · exact ih (a + 1) (by omega) (by omega)

/-- A table that lists a range lists no number above it. -/
theorem read_above_range {α : Type} (f : Nat → α) (n k a : Nat) (h : a + n ≤ k) :
    Table.read ((List.range' a n).map fun i => (i, f i)) k = none := by
  induction n generalizing a with
  | zero => rfl
  | succ n ih =>
    simp only [List.range'_succ, List.map_cons, Table.read]
    rw [if_neg (by omega), ih (a + 1) (by omega)]

/-- Every slot is OPEN with cell (9, 9). -/
def noneFree (k : Commit) : State :=
  let s := committing k
  { withCop s (.aborting false) with
    ctb := { s.ctb with
      slots := (List.range' 0 2048).map fun n => (n, { slotIn .opened none with cell := { cx := 9, cy := 9 } })
      touch := List.range' 0 2048 } }

theorem noneFree_read (k : Commit) (n : Nat) (h : n < 2048) :
    (noneFree k).ctb.slots.read n = some { slotIn .opened none with cell := { cx := 9, cy := 9 } } :=
  read_range _ 2048 n 0 (by omega) (by omega)

theorem noneFree_none_free (k : Commit) : ∀ n < 2048, (noneFree k).ctb.slots.read n ≠ none := by
  intro n h
  rw [noneFree_read k n h]
  simp

theorem noneFree_wf : (noneFree (commitIn .reserve)).ctb.slots.wf = true := by decide +kernel

theorem noneFree_consistent (k : Commit) : (noneFree k).slotsConsistent := by
  have above : ∀ n, 2048 ≤ n → (noneFree k).ctb.slots.read n = none := fun n h => read_above_range _ 2048 n 0 (by omega)
  refine ⟨noneFree_wf, ?_, ?_, List.nodup_range', List.nodup_nil, ?_, ?_, ?_⟩
  · intro e he
    obtain ⟨n, hn, rfl⟩ := List.mem_map.mp he
    rw [List.mem_range'_1] at hn
    simpa using hn.2
  · exact ⟨fun h => (nomatch h), fun h => (nomatch h)⟩
  · intro n
    show n ∈ List.range' 0 2048 ↔ _
    rw [List.mem_range'_1]
    constructor
    · intro h
      exact ⟨_, noneFree_read k n (by omega), rfl⟩
    · rintro ⟨e, he, -⟩
      rcases Nat.lt_or_ge n 2048 with h | h
      · omega
      · rw [above n h] at he
        exact nomatch he
  · intro n
    refine ⟨fun h => (nomatch h), ?_⟩
    rintro ⟨e, he, hs⟩
    rcases Nat.lt_or_ge n 2048 with h | h
    · rw [noneFree_read k n h] at he
      cases he
      exact nomatch hs
    · rw [above n h] at he
      exact nomatch he
  · intro n
    refine ⟨fun h => (nomatch h), ?_⟩
    rintro ⟨e, he, hs⟩
    rcases Nat.lt_or_ge n 2048 with h | h
    · rw [noneFree_read k n h] at he
      cases he
      exact nomatch hs
    · rw [above n h] at he
      exact nomatch he

/-- A READY part with one OPEN slot, number 0, meets the invariant of the cell table. -/
theorem slotsConsistent_of (s : State) (e : Slot) (h : s.ctb.slots = [(0, e)]) (he : e.state = .opened)
    (ht : s.ctb.touch = [0]) (hq : s.ctb.queue = []) (hc : s.cop.state.slot? = none) (hp : s.part = .ready)
    (hr : s.cop.state ≠ .reset) : s.slotsConsistent := by
  have read (n : Nat) (k : Slot) : s.ctb.slots.read n = some k ↔ 0 = n ∧ e = k := by
    simp only [h, Table.read]
    split <;> simp_all
  refine ⟨by rw [h]; rfl, ?_, ?_, by rw [ht]; decide, by rw [hq]; exact List.nodup_nil, ?_, ?_, ?_⟩
  · intro k hk
    rw [h, List.mem_singleton] at hk
    rw [hk]
    exact Nat.zero_lt_succ 2047
  · rw [hp]
    exact ⟨fun h => (nomatch h), fun h => absurd h hr⟩
  · intro n
    rw [ht, List.mem_singleton]
    constructor
    · rintro rfl
      exact ⟨e, (read 0 e).mpr ⟨rfl, rfl⟩, he⟩
    · rintro ⟨k, hk, -⟩
      exact ((read n k).mp hk).1.symm
  · intro n
    rw [hq]
    refine ⟨fun h => (nomatch h), ?_⟩
    rintro ⟨k, hk, hs⟩
    rw [← ((read n k).mp hk).2, he] at hs
    exact nomatch hs
  · intro n
    rw [hc]
    refine ⟨fun h => (nomatch h), ?_⟩
    rintro ⟨k, hk, hs⟩
    rw [← ((read n k).mp hk).2, he] at hs
    exact nomatch hs

theorem test_witness_EmptyQueueStepIsOneTick :
    (batched (.window 1)).pending = [] ∧ (batched (.window 1)).cat.batch = .window 1 ∧
    gathering.pending = [] ∧ gathering.cat.batch = .closed := by decide +kernel

/-- The last long result of a part that has committed. -/
def committed : State :=
  { ready with cmd := { ready.cmd with last := some { kind := .commit, tag := 9, result := .ok, value := some 2 } } }

theorem test_witness_StatusReplyShowsTheStateOfThePart :
    (req []).payload = [] ∧ ready.cmd.last = none ∧
    committed.cmd.last = some { kind := .commit, tag := 9, result := .ok, value := some 2 } := by decide +kernel

/-- A part with a captured answer of three bytes. -/
def answered (cursor : Option Nat) : State := { ready with cmd := { ready.cmd with store := [0, 3, 9], cursor := cursor } }

theorem test_witness_ReadMoreReturnsTheNextChunk :
    ready.part = .ready ∧ (req []).payload = [] ∧ ready.cmd.cursor = none ∧ (answered (some 2)).cmd.cursor = some 2 ∧
    2 < (answered (some 2)).cmd.store.length ∧ (answered (some 3)).cmd.cursor = some 3 ∧
    (answered (some 3)).cmd.store.length ≤ 3 ∧ (answered (some 3)).part = .ready := by decide +kernel

theorem test_witness_FullResetAndStartupReachEveryBlock :
    gathering.part = .ready ∧ (req []).payload = [] ∧ State.reset.part = .starting ∧ State.reset.ctb.queue = [] := by
  decide +kernel

theorem test_witness_NopAndRequestsNotTakenChangeOnlyTheReply :
    (req []).payload = [] ∧ requestOf 0x00 (req []) = none ∧ requestOf 0xFF (req []) = none ∧
    requestOf 0x10 (req []) = some (.putField (req [])) ∧ requestOf 0x60 (req []) = some (.readMore (req [])) ∧
    requestOf 0x44 (req []) = some (.acknowledge (req [])) ∧ State.reset.cmd.taken = [] ∧
    watchRequest (.acknowledge (req [])) = true ∧ (State.takeAhead 1 watched).cmd.taken ≠ [] ∧
    State.reset.part = .starting := by decide +kernel

theorem test_witness_WrongPayloadLengthIsInvalid47 :
    (req [1, 0]).nat 0 1 = 1 ∧ (req [1, 0]).payload.length ≠ 1 + 2 ∧ (req [11]).nat 0 1 = 11 ∧
    (req [11]).payload.length ≠ 1 + (1 + 2 * (req [11]).nat 1 1) ∧ (req [30, 0]).payload.length ≠ 1 + 5 ∧
    (req [1, 0]).payload.length ≠ 6 ∧ (req [2, 0]).nat 0 1 = 2 ∧ (req [2, 0]).payload.length ≠ 3 ∧
    requestOf 0x12 (req [0, 5]) = some (.loadStaging (req [0, 5])) ∧ fixedLength 0x12 = some 3 ∧
    (req [0, 5]).payload.length ≠ 3 ∧ ready.part = .ready ∧ requestOf 0x02 (req [0]) = some (.status (req [0])) ∧
    fixedLength 0x02 = some 0 ∧ (req [0]).payload.length ≠ 0 ∧ ready.cmd.taken = [] ∧
    requestOf 0x41 (req []) = some (.clearWatch (req [])) ∧ fixedLength 0x41 = some 1 := by decide +kernel

/-- SET PARAMETER's frame. -/
def parameter (code v : Nat) : Frame := req (bytesOf 1 code ++ bytesOf 4 v)

/-- The code and value of a SET PARAMETER frame. -/
def carries (code v : Nat) : Bool :=
  (parameter code v).payload.length == 5 && (parameter code v).nat 0 1 == code && (parameter code v).nat 1 4 == v

theorem test_witness_SetParameterWritesValuesInRange :
    carries 0 0 ∧ carries 11 0 ∧ carries 1 99 ∧ carries 1 60001 ∧ carries 2 0 ∧ carries 2 1001 ∧ carries 3 16 ∧
    carries 4 2 ∧ carries 7 2 ∧ carries 8 65536 ∧ carries 9 16 ∧ carries 10 16 ∧ carries 1 100 ∧ carries 1 60000 ∧
    carries 2 1 ∧ carries 2 1000 ∧ carries 3 15 ∧ carries 4 1 ∧ carries 5 1 ∧ carries 6 1 ∧ carries 6 0 ∧ carries 7 1 ∧
    carries 8 65535 ∧ carries 9 15 ∧ carries 10 15 ∧ ready.part = .ready ∧ ready.ple.commit = none ∧
    ready.ctb.queue = [] ∧ (withPort ready upPort).ports[(0 : Fin 4)].up = true ∧ (6).testBit 0 = false ∧
    (withPort ready { upPort with up := false }).ports[(0 : Fin 4)].sync = true ∧ (1).testBit 0 = true := by
  decide +kernel

/-- A row that waits for cell (0, 0). -/
def lacking : Commit := { commitIn .wait with missing := [{ cx := 0, cy := 0 }] }

/-- SPILL written for a waiting row with no slot FREE. -/
theorem test_witness_SetParameterWritesValuesInRange_waiting :
    (noneFree lacking).part = .ready ∧ (noneFree lacking).ple.commit = some lacking ∧ lacking.phase = .wait ∧
    lacking.missing ≠ [] ∧ (∀ n < 2048, (noneFree lacking).ctb.slots.read n ≠ none) ∧
    (noneFree lacking).exc.flushing = false ∧ (noneFree lacking).slotsConsistent ∧ carries 4 0 :=
  ⟨rfl, rfl, rfl, by decide, noneFree_none_free _, rfl, noneFree_consistent _, by decide +kernel⟩

theorem test_witness_ReadParameterGivesCodeAndValue :
    ready.part = .ready ∧ (req [255]).nat 0 1 = 255 ∧ (req [10]).nat 0 1 = 9 + 1 ∧ (req [1]).nat 0 1 = 0 + 1 ∧
    (req [0]).nat 0 1 = 0 ∧ 10 < (req [11]).nat 0 1 ∧ (req [11]).nat 0 1 ≠ 255 ∧ (req [0]).payload.length = 1 := by
  decide +kernel

theorem test_witness_ReadCountersCapturesEveryCounter :
    placing.part = .ready ∧ (req []).payload = [] ∧
    placing.ple.commit = some { fullStrip.commit 0 0 with phase := .place } ∧
    (sending 3).cop.state = .sendingCell 0 header [] 3 false ∧ (sending 3).part = .ready ∧
    (withCop ready (.preparing 2047)).cop.state = .preparing 2047 ∧ (withCop ready (.preparing 2047)).part = .ready ∧
    sendingTrailer.cop.state =
      .sendingTrailer ((withA live { contextIn .closing with endCause := some .ended }).trailerOf .A) .atFirst := by
  decide +kernel

theorem test_witness_PutFieldMakesOneFieldPresent :
    ready.part = .ready ∧ (req [0]).nat 0 1 = 0 ∧ 30 < (req [31]).nat 0 1 ∧ 1 ≤ (req [31]).payload.length ∧
    (req [1, 0x10, 0x00]).payload.length = 3 ∧ (req [1, 0x10, 0x00]).nat 1 2 = 4096 ∧ (req [1, 0x10, 0x01]).nat 1 2 = 4097 ∧
    (req [9, 0, 0]).nat 0 1 = 9 ∧ (req [5, 0, 2, 0, 0]).int 1 4 = 131072 ∧ (req [5, 0, 2, 0, 0]).payload.length = 5 ∧
    (req [8, 0xFF, 0xFD, 0xFF, 0xFF]).int 1 4 = -131073 ∧ (req [14, 16]).nat 1 1 = 16 ∧ (req [14, 16]).payload.length = 2 ∧
    (req [11, 1, 0, 1]).nat 0 1 = 11 ∧ (req [11, 1, 0, 1]).payload.length = 2 + 2 * (req [11, 1, 0, 1]).nat 1 1 ∧
    (req [11, 0]).payload.length = 2 + 2 * (req [11, 0]).nat 1 1 ∧
    (req [30, 0x0F, 0xFF, 0x03, 0xFF, 31]).payload.length = 6 ∧ (req [30, 0x0F, 0xFF, 0x03, 0xFF, 31]).nat 1 2 = 4095 ∧
    (req [30, 0x0F, 0xFF, 0x03, 0xFF, 31]).nat 0 1 = 30 := by decide +kernel

theorem test_witness_ClearStagingMakesEveryFieldAbsent : live.part = .ready ∧ (req []).payload = [] := by decide +kernel

/-- Segment 5 with a staged change. -/
def staged (g : Option Staged) : State := holding { entry with staged := g }

theorem test_witness_LoadStagingCopiesTheSelectedVersion :
    live.part = .ready ∧ (req [3, 255, 1]).payload.length = 3 ∧ (req [3, 255, 1]).nat 0 2 = 1023 ∧
    1023 < (req [4, 0, 1]).nat 0 2 ∧ (req [0, 5, 0]).nat 2 1 = 0 ∧ 4 < (req [0, 5, 5]).nat 2 1 ∧
    live.cat.find 1023 = none ∧ live.cat.find 5 = some (0, entry) ∧
    entry.installed.getLast? = some { version := tile, epoch := 1 } ∧ (holding pendingEntry).cat.find 5 = some (0, pendingEntry) ∧
    pendingEntry.installed.getLast? = none ∧ pendingEntry.staged = some (.version tile) ∧
    (live.ctx .A).resolve entry = none ∧ (gathering.ctx .A).resolve entry = some { version := tile, epoch := 1 } := by
  decide +kernel

/-- A catalogue with no VACANT entry. -/
def fullCatalogue : State :=
  { ready with cat := { ready.cat with entries := (List.range 256).map fun i => (i, { entry with seg := i }) } }

theorem test_witness_StageAddMakesTheLowestVacantEntryPending :
    fullCatalogue.part = .ready ∧ fullCatalogue.cat.entries.wf = true ∧ (∀ i < 256, fullCatalogue.cat.entries.read i ≠ none) ∧
    (∀ e ∈ fullCatalogue.cat.entries, e.2.seg ≠ 1023) ∧ fullCatalogue.catalogueBusy = false ∧
    (req [3, 255]).payload.length = 2 ∧ (req [3, 255]).nat 0 2 = 1023 ∧ 1023 < (req [4, 0]).nat 0 2 ∧
    (running live .commit).catalogueBusy = true ∧ (∃ e ∈ live.cat.entries, e.2.seg = 5) ∧
    live.cat.entries.read 1 = none ∧ (∀ j < 1, live.cat.entries.read j ≠ none) ∧ live.cat.entries.wf = true ∧
    (match live.cat.staging.version with
      | .error code => code == 1
      | .ok _ => false) = true ∧
    (match tileStaged.version with
      | .error _ => false
      | .ok v => v == tile) = true := by decide +kernel

/-- A frame for segment 5, and one for a segment id above 1023. -/
theorem test_witness_segment_frames :
    (req [0, 5]).payload.length = 2 ∧ (req [0, 5]).nat 0 2 = 5 ∧ 1023 < (req [4, 0]).nat 0 2 ∧
    (req [4, 0]).payload.length = 2 ∧ live.part = .ready ∧ live.catalogueBusy = false ∧ ready.cat.find 5 = none ∧
    ready.catalogueBusy = false ∧ (running live .commit).catalogueBusy = true ∧ (running live .commit).part = .ready := by
  decide +kernel

/-- Segment 5, RETIRING. -/
def retiringEntry : Entry := { entry with state := .retiring }

/-- STAGE CHANGE, UNSTAGE, CLEAR SUSPECT (with `test_witness_segment_frames`): an entry for each row of their tables. -/
theorem test_witness_StageChangeFollowsTheEntryTable :
    (holding retiringEntry).cat.find 5 = some (0, retiringEntry) ∧ retiringEntry.state = .retiring ∧
    (holding retiringEntry).catalogueBusy = false ∧ (holding pendingEntry).catalogueBusy = false ∧
    (batched (.window 3)).cat.find 5 = some (0, { entry with member := true }) ∧ (batched (.window 3)).catalogueBusy = false ∧
    (staged (some .retirement)).cat.find 5 = some (0, { entry with staged := some .retirement }) ∧
    (holding pendingEntry).cat.find 5 = some (0, pendingEntry) ∧ live.cat.find 5 = some (0, entry) ∧
    (staged (some (.version tile))).cat.find 5 = some (0, { entry with staged := some (.version tile) }) := by
  decide +kernel

theorem test_witness_RetireFollowsTheEntryTables :
    (req [0, 5, 1]).payload.length = 3 ∧ (req [0, 5, 1]).nat 2 1 = 1 ∧ (req [0, 5, 2]).nat 2 1 = 2 ∧
    (req [0, 5, 3]).nat 2 1 = 3 ∧ 1023 < (req [4, 0, 1]).nat 0 2 ∧ (req [0, 5, 1]).nat 0 2 = 5 := by decide +kernel

theorem test_witness_CommitIsAcceptedOnlyWithNoExposureOpen :
    ready.part = .ready ∧ (req []).payload = [] ∧ (running ready .flush).cmd.long ≠ none ∧ exposing.cmd.long = none ∧
    exposing.exc.ctxA.isOpen = true ∧ ready.exc.ctxA.isOpen = false ∧ ready.exc.ctxB.isOpen = false ∧
    ready.exc.opening = none ∧ ready.cat.epoch < 4294967295 ∧
    ({ ready with cat := { ready.cat with epoch := 4294967295 } } : State).cat.epoch = 4294967295 := by decide +kernel

/-- The catalogue's invariant holds of a part with one entry that is consistent. -/
theorem catalogueConsistent_of (s : State) (e : Entry) (h : s.cat.entries = [(0, e)]) (hs : e.consistent s.cat.epoch)
    (hm : s.cat.batch = .closed → e.member = false) : s.catalogueConsistent := by
  refine ⟨by rw [h]; rfl, ?_, ?_, ?_, ?_⟩ <;> simp [h]
  · exact hs
  · exact hm

theorem entry_consistent : entry.consistent 1 ∧ pendingEntry.consistent 1 := by
  refine ⟨⟨by decide, ?_, ?_, ?_, ?_, by decide, ?_, ?_⟩, ⟨by decide, ?_, ?_, ?_, ?_, by decide, ?_, ?_⟩⟩ <;>
    simp [entry, pendingEntry]

/-- The staging record with every field absent fails at code 1, and one that lacks its second placement at 16. -/
theorem test_witness_ValidationAcceptsExactlyCompleteRecords :
    live.part = .ready ∧ (req [0, 6]).payload.length = 2 ∧ (req [0, 6]).nat 0 2 = 6 ∧ live.catalogueBusy = false ∧
    live.cat.staging.fails 1 ∧ (∀ j < 1, ¬live.cat.staging.fails j) ∧ live.cat.find 6 = none ∧
    live.cat.entries.length < 256 ∧ live.catalogueConsistent ∧
    ({ tileStaged with defectCount := some 2 } : Staging).fails 16 ∧
    (holding pendingEntry).cat.staging.fails 1 ∧ (holding pendingEntry).cat.find 5 = some (0, pendingEntry) ∧
    pendingEntry.state = .pending ∧ (holding pendingEntry).catalogueBusy = false ∧
    (holding pendingEntry).catalogueConsistent := by
  refine ⟨rfl, rfl, by decide +kernel, rfl, rfl, ?_, rfl, by decide, ?_, ?_, rfl, rfl, rfl, rfl, ?_⟩
  · intro j h
    obtain rfl : j = 0 := by omega
    exact id
  · exact catalogueConsistent_of _ entry rfl entry_consistent.1 (fun _ => rfl)
  · exact ⟨2, rfl, by decide, fun p h => nomatch h⟩
  · exact catalogueConsistent_of _ pendingEntry rfl entry_consistent.2 (fun _ => rfl)

theorem test_witness_CommitBoundaryInstallsStagedVersions :
    let s := running (holding pendingEntry) .commit
    s.catalogueConsistent ∧ s.cmd.long = some { kind := .commit, tag := 9 } ∧ s.cat.batch = .closed ∧
    s.exc.opening = none ∧ s.exc.ctxA.isOpen = false ∧ s.exc.ctxB.isOpen = false ∧
    s.exc.latch = { opening := false, closing := false } ∧ (0, pendingEntry) ∈ s.cat.entries ∧
    pendingEntry.staged = some (.version tile) ∧ (0, entry) ∈ (running live .commit).cat.entries ∧
    (running live .commit).catalogueConsistent ∧
    entry.installed.getLast? = some { version := tile, epoch := 1 } ∧ s.applying = false := by
  refine ⟨catalogueConsistent_of _ pendingEntry rfl entry_consistent.2 (fun _ => rfl), ?_⟩
  refine ⟨rfl, rfl, rfl, rfl, rfl, rfl, by decide, rfl, by decide, ?_, rfl, rfl⟩
  exact catalogueConsistent_of _ entry rfl entry_consistent.1 (fun _ => rfl)

theorem test_witness_ReadEntryCapturesTheSection :
    (req [0, 5, 4, 1]).payload.length = 4 ∧ (req [0, 5, 4, 1]).nat 0 2 = 5 ∧ (req [0, 5, 4, 1]).nat 2 1 = 4 ∧
    (req [0, 5, 4, 1]).nat 3 1 = 1 ∧ (req [0, 5, 0, 1]).nat 2 1 = 0 ∧ 4 < (req [0, 5, 5, 1]).nat 2 1 ∧
    (req [0, 5, 2, 0]).nat 3 1 = 0 ∧ 4 < (req [0, 5, 2, 5]).nat 3 1 ∧ (req [0, 5, 1, 0]).nat 2 1 = 1 ∧
    live.part = .ready ∧ live.cat.find 5 = some (0, entry) ∧ 1023 < (req [4, 0, 1, 0]).nat 0 2 ∧ ready.cat.find 5 = none ∧
    (req [0, 5, 3, 2]).nat 2 1 = 3 ∧ (req [0, 5, 3, 2]).nat 3 1 = 2 ∧ (req [0, 5, 2, 4]).nat 3 1 = 4 ∧
    pendingEntry.installed.getLast? = none ∧ pendingEntry.staged = some (.version tile) ∧
    (holding pendingEntry).cat.find 5 = some (0, pendingEntry) ∧
    (gathering.ctx .A).resolve entry = some { version := tile, epoch := 1 } ∧ (gathering.ctx .B).resolve entry = none := by
  decide +kernel

theorem test_witness_StampsInUseAreNotRewritten :
    exposing.part = .ready ∧ (req [2]).payload.length = 1 ∧ (req [31]).nat 0 1 = 31 ∧ 31 < (req [32]).nat 0 1 ∧
    (req [2, 1, 2, 3, 4, 5, 6, 7, 8]).payload.length = 9 ∧ exposing.catalogueBusy = false ∧
    (running live .commit).catalogueBusy = true ∧ (exposing.ctx .A).resolve entry = some { version := tile, epoch := 1 } ∧
    (0, entry) ∈ exposing.cat.entries ∧ (∃ p ∈ tile.defects, p.stamp = 2) ∧ (∀ p ∈ tile.defects, p.stamp ≠ 31) := by
  decide +kernel

theorem test_witness_SignatureWalkBeginsAtSegmentZero :
    live.part = .ready ∧ live.cmd.long = none ∧ live.cat.sign.status = .none ∧ (walking 6).cmd.long ≠ none ∧
    (walking 6).cat.sign.status = .running ∧ (walking 6).part = .ready ∧
    ({ Signature.begin with status := .signed } : Signature).status = .signed ∧
    ({ Signature.begin with status := .disturbed } : Signature).status = .disturbed := by decide +kernel

theorem test_witness_SignatureStepsFoldEntriesThenStamps :
    (walking 5).cat.sign.status = .running ∧ (0, entry) ∈ (walking 5).cat.entries ∧
    (walking 5).cat.sign.position ≤ entry.seg ∧
    (∀ k ∈ (walking 5).cat.entries, (walking 5).cat.sign.position ≤ k.2.seg → k = (0, entry) ∨ entry.seg < k.2.seg) ∧
    (walking 6).cmd.long = some { kind := .signCatalogue, tag := 9 } ∧ (walking 6).cat.sign.status = .running ∧
    ∀ k ∈ (walking 6).cat.entries, k.2.seg < (walking 6).cat.sign.position := by decide +kernel

theorem test_witness_BatchApplicationBeginsAtExpiry :
    (batched (.window 3)).cat.batch = .window 3 ∧ (batched (.window 3)).exc.opening = none ∧
    (batched (.window 3)).running .commit = false ∧ (batched (.window 3)).running .flush = false ∧
    (running (batched (.window 3)) .flush).running .flush = true ∧
    (running (batched (.window 3)) .flush).cat.batch = .window 3 ∧
    (batched (.applying false)).cat.batch = .applying false ∧ (batched .due).cat.batch = .due ∧
    (batched .due).exc.opening = none ∧ (batched .due).running .commit = false ∧ (batched .due).running .flush = false ∧
    (running (batched .due) .flush).running .flush = true := by decide +kernel

theorem test_witness_BatchWithdrawalVacatesEveryMember :
    (batched (.applying true)).cat.batch = .applying true ∧ (batched (.applying true)).committingMember = false ∧
    (withA (batched (.applying true)) (contextIn .gathering)).committingMember = false ∧
    ((withA (batched (.applying true)) (contextIn .gathering)).ctx .A).isOpen = true := by decide +kernel

/-- The withdrawal beside an OPEN slot of the member. -/
theorem test_witness_BatchWithdrawalVacatesEveryMember_slots :
    let s := withSlot (withA (batched (.applying true)) (contextIn .gathering)) (slotIn .opened none) [0] []
    s.cat.batch = .applying true ∧ s.committingMember = false ∧ s.slotsConsistent ∧ s.cat.members = [5] :=
  ⟨rfl, rfl, slotsConsistent_of _ _ rfl rfl rfl rfl rfl rfl (by decide), rfl⟩

/-- Both contexts are in use. -/
def bothUsed : State := { gathering with exc := { gathering.exc with ctxB := { contextIn .held with number := 2 } } }

/-- A part at the epoch limit. -/
def atLimit : State := { ready with cat := { ready.cat with epoch := 4294967295 } }

/-- A part with edges latched. -/
def latched (opening closing : Bool) : State :=
  { ready with exc := { ready.exc with latch := { opening := opening, closing := closing } } }

/-- Each combination of latched edges, with nothing in progress, and what the opening edge then does. -/
theorem test_witness_OpeningTakesAFreeContextAndTheNextNumber_latch :
    (latched true false).part = .ready ∧ (latched true false).params.shutterUse = true ∧
    (latched true false).openingBlocked = false ∧ (latched false true).openingBlocked = false ∧
    (latched true true).openingBlocked = false ∧ (latched true true).exc.latch.closing = true ∧
    (latched false false).exc.latch.opening = false ∧ (running (latched true true) .flush).openingBlocked = true ∧
    next (exec .openingEdge (latched false false)) (fun u => u.exc.opening != none) = true ∧
    next (exec .openingEdge { latched false false with cat := { ready.cat with epoch := 4294967295 } }) (fun u =>
      u.exc.opening == none) = true := by decide +kernel

theorem test_witness_OpeningTakesAFreeContextAndTheNextNumber :
    State.reset.part = .starting ∧ ready.part = .ready ∧ (req []).payload = [] ∧
    ready.exc.latch = { opening := false, closing := false } ∧ ready.params.shutterUse = true ∧
    (running ready .flush).openingBlocked = true ∧ exposing.openingBlocked = false ∧ exposing.exc.ctxA.state = .exposing ∧
    bothUsed.openingBlocked = false ∧ bothUsed.exc.ctxA.state = .gathering ∧ bothUsed.exc.ctxB.state = .held ∧
    atLimit.openingBlocked = false ∧ 4294967295 ≤ atLimit.cat.epoch ∧ atLimit.exc.ctxA.state = .free ∧
    gathering.cat.epoch < 4294967295 ∧ gathering.exc.ctxB.state = .free ∧ gathering.openingBlocked = false ∧
    gathering.exc.ctxA.number = gathering.params.nextExposure := by decide +kernel

theorem test_witness_OpeningCompletesInAnExposingContext :
    let s : State := { live with exc := { live.exc with opening := some { ctx := .A, number := 1 } } }
    s.exc.opening = some { ctx := .A, number := 1 } ∧ s.cat.batch = .closed ∧
    s.exc.latch = { opening := false, closing := false } := by decide +kernel

/-- A command waits in a part whose slots a check or a close queues: none, a watch request, and another. -/
theorem test_witness_requests_waiting :
    watched.requestWaits = true ∧ ending.requestWaits = false ∧
    ({ ending with pending := [.nop (req [])] } : State).requestWaits = false ∧ watched.cmd.taken = [] := by
  decide +kernel

/-- Exposure 1 is EXPOSING with nothing left to receive. -/
def nothingLeft : State := withA live { contextIn .exposing with progress := [{ seg := 5, next := 2, withdrawn := false }] }

/-- Exposure 1 is EXPOSING beside a closing edge that waits alone for a batch application. -/
def closingLatched : State := withA (latched false true) (contextIn .exposing)

/-- CLOSE SHUTTER is taken beside a latched closing edge, which stays (R55). -/
theorem test_closeShutter_closing_latched : next (exec (.closeShutter (req [])) closingLatched) (fun t =>
    t.exc.ctxA.state == .gathering && t.exc.latch.closing) = true := by decide +kernel

theorem test_witness_ClosingStartsGathering :
    exposing.part = .ready ∧ (req []).payload = [] ∧ exposing.exc.opening = none ∧
    exposing.exc.latch = { opening := false, closing := false } ∧ exposing.exc.flushing = false ∧
    exposing.running .flush = false ∧ live.exc.ctxA.state ≠ .exposing ∧ live.exc.ctxB.state ≠ .exposing ∧
    (exposing.ctx .A).state = .exposing ∧ (exposing.ctx .A).endCause = none ∧ (exposing.ctx .B).state ≠ .exposing ∧
    (∃ r ∈ (exposing.ctx .A).progress, r.withdrawn = false ∧ exposing.finished .A r = false) ∧
    (∀ r ∈ (nothingLeft.ctx .A).progress, r.withdrawn = true ∨ nothingLeft.finished .A r = true) ∧
    exposing.params.shutterUse = true ∧ (latched true true).exc.latch.closing = true ∧
    (latched true false).exc.latch.closing = false ∧ (latched true false).exc.latch.opening = true ∧
    (running exposing .flush).running .flush = true ∧ (flushing exposing).exc.flushing = true ∧
    (flushing exposing).exc.opening = none ∧ (latched false true).exc.latch.closing = true ∧
    (latched false true).exc.latch.opening = false ∧ (latched false true).exc.opening = none ∧
    (latched false true).exc.ctxA.state ≠ .exposing ∧ (closingLatched.ctx .A).state = .exposing ∧
    closingLatched.exc.latch = { opening := false, closing := true } ∧ closingLatched.running .flush = false ∧
    (closingLatched.ctx .B).state ≠ .exposing := by decide +kernel

theorem test_witness_EndAndReleaseFollowTheContextState :
    (req [0]).payload.length = 1 ∧ (req [0]).nat 0 1 = ctxCode .A ∧ (req [1]).nat 0 1 = ctxCode .B ∧
    1 < (req [2]).nat 0 1 ∧ exposing.part = .ready ∧ (running exposing .flush).running .flush = true ∧
    exposing.running .flush = false ∧ (withCop exposing (.aborting false)).cop.state ≠ .idle ∧
    (gathering.ctx .A).endCause = none ∧ (ending.ctx .A).endCause ≠ none ∧ (live.ctx .A).state = .free ∧
    ((withA live (contextIn .held)).ctx .A).state = .held := by decide +kernel

/-- Exposure 1 is HELD, its lists fixed. -/
def fixedLists : State :=
  withA live { contextIn .held with
    endCause := some .limit, summary := { Summary.start with fixed := some { missing := [5], withdrawn := [] } } }

theorem test_witness_ReadSummaryCapturesTheCounts :
    live.part = .ready ∧ (req [0]).payload.length = 1 ∧ (req [0]).nat 0 1 = ctxCode .A ∧ (live.ctx .A).state = .free ∧
    (gathering.ctx .A).state ≠ .free ∧ (gathering.ctx .A).summary.fixed = none ∧ 1 < (req [2]).nat 0 1 ∧
    (fixedLists.ctx .A).summary.fixed = some { missing := [5], withdrawn := [] } := by decide +kernel

theorem test_witness_ReadSummaryCapturesTheCounts_consistent :
    (gathering.ctx .A).consistent ∧ (fixedLists.ctx .A).consistent := by
  constructor <;> refine ⟨?_, ?_, ?_, ?_, List.pairwise_singleton _ _, ?_⟩ <;>
    simp [gathering, fixedLists, withA, contextIn, State.ctx, Exc.ctx, Summary.start]

/-- A queued slot, and a row that waits for a cell, while a FLUSH takes its first step. -/
def flushedRow : State :=
  running (withSlot (committing lacking) (slotIn .queued (some .complete)) [] [.slot 0]) .flush

theorem test_witness_FlushEmptiesBuffersAndQueue_row :
    flushedRow.running .flush = true ∧ flushedRow.exc.flushing = false ∧ flushedRow.exc.opening = none ∧
    flushedRow.applying = false ∧ flushedRow.ple.commit = some lacking ∧ flushedRow.ctb.queue = [.slot 0] := by
  decide +kernel

theorem test_witness_FlushEmptiesBuffersAndQueue :
    gathering.part = .ready ∧ (req []).payload = [] ∧ gathering.cmd.long = none ∧
    (running gathering .flush).running .flush = true ∧ (running gathering .flush).exc.flushing = false ∧
    (running gathering .flush).exc.opening = none ∧ (running gathering .flush).applying = false ∧
    (running gathering .flush).cmd.long ≠ none ∧ (running gathering .flush).ple.commit = none := by decide +kernel

theorem test_witness_FlushCompleteFreesEveryContext :
    let s := flushing (sending 3)
    s.cmd.long = some { kind := .flush, tag := 9 } ∧ s.exc.flushing = true ∧ s.ple.commit = none ∧
    s.exc.ctxA.ending = false ∧ s.exc.ctxB.ending = false ∧ s.cat.batch ≠ .due ∧
    s.exc.latch = { opening := false, closing := false } ∧ s.cop.state.slot? ≠ none ∧
    (flushing live).cop.state = .idle ∧
    (flushing (withCop live (.preparing 0))).cop.state = .preparing 0 ∧ entry.state ≠ .retiring ∧ (0, entry) ∈ s.cat.entries ∧ (flushing sendingTrailer).cop.state =
      .sendingTrailer ((withA live { contextIn .closing with endCause := some .ended }).trailerOf .A) .atFirst := by
  decide +kernel

theorem test_witness_FlushCompleteFreesEveryContext_cut : ∀ n, (flushing (sending 3)).cop.state ≠ .preparing n :=
  fun _ h => nomatch h

theorem test_witness_GatherTimerExpiryEndsGathering :
    (gathering.ctx .A).timer ≠ none ∧ (gathering.ctx .A).state = .gathering ∧ (gathering.ctx .A).endCause = none ∧
    (gathering.ctx .B).timer = none := by decide +kernel

theorem test_witness_ForcedCloseQueuesCellsThenTrailer :
    let s := withCop (withSlot ending (slotIn .opened none) [0] []) (.aborting false)
    (s.ctx .A).state = .gathering ∧ (s.ctx .A).endCause ≠ none ∧ s.committingFor .A = false ∧ s.exc.flushing = false ∧
    s.cop.state ≠ .idle ∧ s.ctb.slots.read 0 = some (slotIn .opened none) ∧ 0 ∈ s.ctb.touch := by decide +kernel

theorem test_witness_ForcedCloseQueuesCellsThenTrailer_consistent :
    (withCop (withSlot ending (slotIn .opened none) [0] []) (.aborting false)).slotsConsistent :=
  slotsConsistent_of _ _ rfl rfl rfl rfl rfl rfl (by decide)

theorem test_witness_WordSyncAndVerdictsSent :
    ready.ports[(0 : Fin 4)].up = false ∧ (receiving strip).ports[(0 : Fin 4)].up = true ∧
    (withPort live { upPort with verdicts := [{ seg := 5, first := 1, code := .gap, next := 2 }] }).ports[(0 : Fin 4)].verdicts =
      [{ seg := 5, first := 1, code := .gap, next := 2 }] ∧ (receiving strip).ports[(0 : Fin 4)].verdicts = [] := by
  decide +kernel

theorem test_witness_GoodHeaderTakesTheLowerIdleBuffer :
    let s := withPort gathering upPort
    s.ports[(0 : Fin 4)].up = true ∧ s.exc.flushing = false ∧ s.ports[(0 : Fin 4)].buffers[(0 : Fin 2)] = .idle ∧
    (∀ b : Fin 2, s.ports[(0 : Fin 4)].buffers[b].isReceiving = false) ∧ s.exc.carrying (highHalf 0x00010005) = some .A ∧
    (s.ctx .A).state = .gathering ∧ (s.ctx .A).endCause = none ∧ lowHalf 0x00010005 = 5 ∧
    s.cat.find 5 = some (0, entry) ∧ (s.ctx .A).record 5 = some { seg := 5, next := 0, withdrawn := false } ∧
    entry.marker = none ∧ s.resolved .A 5 = some tile ∧ highHalf 0x00000002 = 0 ∧ lowHalf 0x00000002 = 2 ∧
    0 + 2 ≤ tile.rows := by decide +kernel

/-- A header that ends the strip being received: the state in which its checks are then made. -/
theorem test_witness_headers_while_receiving :
    let e : Fin 2 × Strip := (0, strip)
    let s := (receiving strip).headerStart 0 (some e)
    (receiving strip).ports[(0 : Fin 4)].up = true ∧ (receiving strip).ports[(0 : Fin 4)].buffers[(0 : Fin 2)] = .receiving strip ∧
    s.exc.flushing = false ∧ s.exc.carrying 1 = some .A ∧ (s.ctx .A).state = .gathering ∧ (s.ctx .A).endCause = none ∧
    s.cat.find 5 = some (0, { entry with broken := 3 }) ∧ s.resolved .A 5 = some tile ∧
    s.ports[(0 : Fin 4)].buffers[(0 : Fin 2)] = .idle ∧ s.exc.carrying 2 = none := by decide +kernel

theorem test_witness_isReceiving :
    (receiving strip).ports[(0 : Fin 4)].isReceiving (some (0, strip)) ∧
    (withPort gathering upPort).ports[(0 : Fin 4)].isReceiving none := by
  refine ⟨⟨rfl, fun h => nomatch h⟩, ?_⟩
  intro b
  revert b
  decide +kernel

/-- SP0 with both buffers READY, buffer 0 the older. -/
def bothReady : Port :=
  { upPort with buffers := (upPort.buffers.set 0 (.ready fullStrip)).set 1 (.ready fullStrip), older := some 0 }

/-- HEADER checks (with the witness before): the state in which each check is the first to fail. -/
theorem test_witness_HeaderChecksFailInOrder :
    ready.ports[(0 : Fin 4)].up = false ∧ (flushing (withPort gathering upPort)).exc.flushing = true ∧
    (withPort gathering bothReady).ports[(0 : Fin 4)].buffers[(0 : Fin 2)] ≠ .idle ∧
    (withPort gathering bothReady).ports[(0 : Fin 4)].buffers[(1 : Fin 2)] ≠ .idle ∧
    (∀ b : Fin 2, (withPort gathering bothReady).ports[(0 : Fin 4)].buffers[b].isReceiving = false) ∧
    gathering.exc.carrying 2 = none ∧ exposing.exc.carrying 1 = some .A ∧ ending.exc.carrying 1 = some .A ∧
    (ending.ctx .A).endCause ≠ none ∧ ((withA live (contextIn .held)).ctx .A).state = .held ∧ gathering.cat.find 6 = none ∧
    1023 < lowHalf 0x00010400 ∧ (batched (.window 3)).cat.isMember 5 = true ∧ (gathering.ctx .A).record 6 = none ∧
    ({ contextIn .gathering with progress := [{ seg := 5, next := 1, withdrawn := true }] } : Context).record 5 =
      some { seg := 5, next := 1, withdrawn := true } ∧ highHalf 0x00010001 = 1 ∧ lowHalf 0x00000011 = 17 ∧
    tile.rows < highHalf 0x00010002 + lowHalf 0x00010002 := by decide +kernel

/-- A malformed header or strip end, at a port that receives a strip, at an UP port that receives none, and at a DOWN
port (with `test_witness_RowsAreAppendedOrBreakTheStrip`). -/
theorem test_witness_malformed_messages :
    ([1] : List Word).length ≠ 2 ∧ ([1, 2, 3] : List Word).length ≠ 2 ∧ ([] : List Word).length ≠ 1 ∧
    ([1, 2] : List Word).length ≠ 1 ∧ ([9] : List Word).length = 1 ∧ ready.ports[(0 : Fin 4)].up = false := by
  decide +kernel

theorem test_witness_RowsAreAppendedOrBreakTheStrip :
    (withPort gathering upPort).ports[(0 : Fin 4)].up = true ∧
    (∀ b : Fin 2, (withPort gathering upPort).ports[(0 : Fin 4)].buffers[b].isReceiving = false) ∧
    (receiving strip).ports[(0 : Fin 4)].buffers[(0 : Fin 2)] = .receiving strip ∧
    rowPixels [2, 0x01000200] = some [0x0100, 0x0200] ∧ ([0x0100, 0x0200] : List Pixel).length = strip.cols ∧
    strip.rows.length < strip.count ∧ rowPixels [1, 0x01000000] = some [0x0100] ∧
    ([0x0100] : List Pixel).length ≠ strip.cols ∧ fullStrip.count ≤ fullStrip.rows.length ∧ rowPixels [] = none := by
  decide +kernel

theorem test_witness_StripEndMakesTheStripReady :
    (receiving fullStrip).ports[(0 : Fin 4)].up = true ∧
    (receiving fullStrip).ports[(0 : Fin 4)].buffers[(0 : Fin 2)] = .receiving fullStrip ∧
    fullStrip.rows.length = fullStrip.count ∧ crc32Value fullStrip.crc = ~~~fullStrip.crc ∧ 0 ≠ ~~~fullStrip.crc ∧
    (receiving fullStrip).ple.commit = none ∧
    (∀ (p : Fin 4) (b : Fin 2), (receiving fullStrip).ports[p].buffers[b].ready? = none) ∧
    ({ receiving fullStrip with ple := { lastServed := 1, commit := some (commitIn .wait) } } : State).ple.commit ≠ none ∧
    strip.rows.length < strip.count ∧ (0, entry) ∈ (receiving strip).cat.entries ∧ entry.seg = strip.seg ∧
    (withPort gathering bothReady).ple.commit = none ∧ (withPort gathering bothReady).ple.lastServed + 1 + 0 = 0 ∧
    (withPort gathering bothReady).ports[(0 : Fin 4)].buffers[(0 : Fin 2)] = .ready fullStrip ∧ bothReady.older = some 0 ∧
    (∀ i < (0 : Fin 4), ∀ b : Fin 2, (withPort gathering bothReady).ports[3 + 1 + i].buffers[b].ready? = none) := by
  decide +kernel

theorem test_witness_RowReserveFindsOrOpensTouchedCells :
    let k := commitIn .reserve
    let s := withCop (committing k) (.aborting false)
    let opened := withCop (withSlot (committing k) (slotIn .opened none) [0] []) (.aborting false)
    s.ple.commit = some k ∧ k.phase = .reserve ∧ k.opening = none ∧ s.resolved k.ctx k.seg = some tile ∧
    s.cop.state ≠ .idle ∧ s.touchedBy k = [] ++ [{ cx := 0, cy := 0 }] ∧ s.ctb.index k.ctx { cx := 0, cy := 0 } = none ∧
    s.ctb.slots.read 0 = none ∧ s.ctb.slots.wf = true ∧ opened.ple.commit = some k ∧
    (∀ cell ∈ opened.touchedBy k, opened.ctb.index k.ctx cell ≠ none) := by decide +kernel

theorem test_witness_RowReserveWaits :
    let k := commitIn .reserve
    (∀ n < 2048, (noneFree k).ctb.slots.read n ≠ none) ∧ (noneFree k).ple.commit = some k ∧
    (noneFree k).exc.flushing = false ∧ (noneFree k).slotsConsistent ∧ (noneFree k).resolved k.ctx k.seg = some tile ∧
    (noneFree k).touchedBy k = [{ cx := 0, cy := 0 }] ∧ (noneFree k).ctb.index k.ctx { cx := 0, cy := 0 } = none := by
  refine ⟨noneFree_none_free _, rfl, rfl, noneFree_consistent _, by decide +kernel, by decide +kernel, by decide +kernel⟩

theorem test_witness_CellOpeningClearsItsMemory :
    let k : Commit := { commitIn .reserve with opening := some 0 }
    let w : Commit := { commitIn .wait with opening := some 0 }
    let s := withCop (committing k) (.aborting false)
    s.ple.commit = some k ∧ k.opening = some 0 ∧ s.ctb.slots.wf = true ∧ k.phase = .reserve ∧
    (committing w).ple.commit = some w ∧ w.opening = some 0 ∧ (committing w).ctb.slots.wf = true ∧ w.phase ≠ .reserve ∧
    ({ tile with originX := 4294967295 } : Version).rowReaches { cx := 1024, cy := 0 } 0 = false := by
  decide +kernel

/-- An attempt: nothing lacking; a slot FREE; none FREE, under a FLUSH, with SPILL 0, and with SPILL 1. -/
theorem test_witness_CellOpeningClearsItsMemory_attempts :
    let w := commitIn .wait
    let fl := flushing (noneFree lacking)
    (committing w).ple.commit = some w ∧ w.phase = .wait ∧ w.missing = [] ∧
    lacking.missing = { cx := 0, cy := 0 } :: [] ∧ (committing lacking).ple.commit = some lacking ∧
    (committing lacking).ctb.isLowestFree 0 ∧ (committing lacking).ctb.slots.wf = true ∧
    (∀ n < 2048, fl.ctb.slots.read n ≠ none) ∧ fl.exc.flushing = true ∧
    (fl.ctb.touched fun e => e.state == .opened && !e.pinned).head? = some 0 ∧
    (noneFree lacking).params.spill = true ∧ (noneFree lacking).exc.flushing = false ∧
    (noneFree lacking).slotsConsistent := by
  refine ⟨rfl, rfl, rfl, rfl, rfl, ⟨by decide, rfl, fun j h => by omega⟩, rfl, noneFree_none_free _, rfl, ?_, rfl, rfl,
    noneFree_consistent _⟩
  decide +kernel

/-- `placing` with a version in the catalogue and a record at the pixel. -/
def placingWith (v : Version) (r : SkyRecord) : State :=
  { placing with
    cat := { placing.cat with entries := [(0, { entry with installed := [{ version := v, epoch := 1 }] })] }
    ctb := { placing.ctb with memory := [(0, r)] } }

/-- A stamp 2 that marks pixel (0, 1) of `tile`. -/
def marked : Vector Stamp 32 := Cat.reset.stamps.set 2 (Vector.replicate 8 1)

theorem test_witness_PixelPositionAndValueAreRounded :
    (65535 : Nat) ≤ 65535 ∧ tile.bias ≤ 65535 ∧ tile.gain ≤ 65535 ∧ tile.flat.getD (1 / 64) 0 ≤ 65535 ∧
    tile.calibrate 0 99 = -1 ∧ tile.skyPixel 1 1 = some (1, 1) := by decide +kernel

theorem test_witness_PixelOutcomesFollowTheOrderOfTests :
    let k := commitIn .place
    placing.ple.commit = some k ∧ k.phase = .place ∧ k.col < k.cols ∧ placing.resolved k.ctx k.seg = some tile ∧
    (placing.ctx k.ctx).isOpen = true ∧ (placing.ctx k.ctx).summary.fixed = none ∧ placing.rawPixel k = 256 ∧
    tile.defective marked 0 1 = true ∧ tile.defective placing.cat.stamps 0 0 = false ∧ 256 < tile.saturation ∧
    (placingWith { tile with saturation := 256 } SkyRecord.clear).resolved .A 5 = some { tile with saturation := 256 } ∧
    ({ tile with colStepX := -65536 } : Version).skyPixel 0 1 = none ∧ tile.skyPixel 0 0 = some (0, 0) ∧
    placing.ctb.index .A { cx := 0, cy := 0 } = some 0 ∧
    placing.ctb.slots.read 0 = some { slotIn .opened none with pinned := true } ∧
    (∃ q ∈ (slotIn .opened none).contributors, q.seg = k.seg) ∧ (∀ q ∈ (slotIn .opened none).contributors, q.seg ≠ 6) ∧
    placing.ctb.memory.wf = true ∧ (Memory.read placing.ctb.memory 0).weight + tile.weight ≤ 2040 ∧
    (placingWith tile { sum := 7, weight := 2038, damaged := false }).ctb.memory.wf = true ∧
    2040 < (Memory.read (placingWith tile { sum := 7, weight := 2038, damaged := false }).ctb.memory 0).weight + tile.weight ∧
    tile.weight ≤ 2040 := by decide +kernel

theorem test_witness_RowAdvanceMovesProgressOrEndsTheCommit :
    let k := rowDone
    let two : Commit := { k with count := 2 }
    (committing k).ple.commit = some k ∧ k.phase = .place ∧ k.cols ≤ k.col ∧ k.first + k.count ≤ k.row + 1 ∧
    two.row + 1 < two.first + two.count ∧ (committing two).ple.commit = some two ∧
    ((committing k).ctx k.ctx).isOpen = true ∧ ((committing k).ctx k.ctx).summary.fixed = none ∧
    (committing k).ports[k.port].up = true ∧ (committing k).ports[k.port].verdicts.length < 8 ∧
    (committing k).resolved k.ctx k.seg = some tile ∧ k.touched.Nodup := by decide +kernel

theorem test_witness_RowAdvanceMovesProgressOrEndsTheCommit_consistent :
    (withSlot (committing rowDone) { slotIn .opened none with pinned := true } [0] []).slotsConsistent :=
  slotsConsistent_of _ _ rfl rfl rfl rfl rfl rfl (by decide)

theorem test_witness_ReadCellAndReadWatchGiveTheRecords :
    ready.part = .ready ∧ (req [3]).nat 0 1 = 3 ∧ 1 ≤ (req [3]).payload.length ∧ (req [1, 0, 3, 255, 3, 255]).payload.length = 6 ∧
    (req [1, 0, 3, 255, 3, 255]).nat 0 1 = 1 ∧ (req [1, 0, 3, 255, 3, 255]).nat 1 1 = ctxCode .A ∧
    (req [1, 0, 3, 255, 3, 255]).nat 2 2 = 1023 ∧ 1 < (req [1, 2, 0, 0, 0, 0]).nat 1 1 ∧
    1023 < (req [1, 1, 4, 0, 0, 0]).nat 2 2 ∧ ready.ctb.index .A { cx := 1023, cy := 1023 } = none ∧
    placing.ctb.index .A { cx := 0, cy := 0 } = some 0 ∧ (req [2, 7, 255]).nat 1 2 = 2047 ∧ (req [2, 7, 255]).nat 0 1 = 2 ∧
    2048 ≤ (req [2, 8, 0]).nat 1 2 ∧ (req [2, 8, 0]).payload.length = 3 ∧ ready.ctb.slots.read 2047 = none ∧
    placing.ctb.slots.read 0 = some { slotIn .opened none with pinned := true } ∧
    (req [7]).nat 0 1 = (7 : Fin 8).val ∧ (req [255]).nat 0 1 = 255 ∧ 7 < (req [8]).nat 0 1 := by decide +kernel

theorem test_witness_PreparationAndUnitsSendTheRecord :
    let s := withCop (withSlot gathering (slotIn .emitting (some .partly)) [] []) (.preparing 0)
    s.cop.state = .preparing 0 ∧ s.ctb.slots.read 0 = some (slotIn .emitting (some .partly)) ∧ s.ctb.slots.wf = true ∧
    s.ctb.memory.wf = true ∧
    (sending 63).cop.state = .sendingCell 0 header [] 63 false ∧ (sending 64).cop.state = .sendingCell 0 header [] 64 false ∧
    (sending 64).ctb.slots.read 0 = some (slotIn .emitting (some .partly)) ∧ (sending 64).ple.commit = none ∧
    (sending 64).ctb.queue = [] ∧ ((sending 64).ctx .A).isOpen = true ∧ ((sending 64).ctx .A).summary.fixed = none ∧
    errorsWellFormed [(0, .uncorrectable), (4095, .single)] = true ∧
    ((s.errorsBy 0 [(0, .uncorrectable), (4095, .single)]).ctb.slots.read 0).isSome = true ∧
    (foundIn [] 0 { sum := 5, weight := 2, damaged := false }).weight ≠ 0 ∧ roundDiv 5 2 = 3 ∧ roundDiv (-5) 2 = -3 ∧
    header.contributors.length ≤ 8 := by
  decide +kernel

theorem test_witness_TrailerEndsTheExposure :
    sendingTrailer.ctb.queue = [] ∧ sendingTrailer.cop.state =
      .sendingTrailer ((withA live { contextIn .closing with endCause := some .ended }).trailerOf .A) .atFirst ∧
    (0, entry) ∈ sendingTrailer.cat.entries ∧ entry.state ≠ .retiring ∧
    (withCop ready (.aborting false)).cop.state = .aborting false ∧ TrailerPoint.atFirst ≠ .held ∧
    TrailerPoint.begun ≠ .held := by
  decide +kernel

theorem test_witness_PauseHoldsAndFreesThePort :
    (sending 3).cop.state = .sendingCell 0 header [] 3 false ∧
    sendingTrailer.cop.state =
      .sendingTrailer ((withA live { contextIn .closing with endCause := some .ended }).trailerOf .A) .atFirst ∧
    (withCop ready (.aborting true)).cop.state = .aborting true ∧ State.reset.cop.state = .reset ∧ ready.cop.state = .idle ∧
    ready.ctb.queue = [] ∧ (withSlot ready (slotIn .queued none) [] [.slot 0]).ctb.queue = .slot 0 :: [] ∧
    ready.exc.flushing = false ∧ ready.cop.pause = false ∧
    ({ sendingTrailer with ctb := { ready.ctb with queue := [.trailer .A] }, cop := ready.cop } : State).ctb.queue =
      .trailer .A :: [] ∧ (sendingTrailer.ctx .A).summary.fixed = none := by decide +kernel

theorem test_witness_PauseHoldsAndFreesThePort_rise : ∀ r, (sending 3).cop.state ≠ .sendingTrailer r .atFirst :=
  fun _ h => nomatch h

theorem test_witness_SetWatchReplacesTheRecord :
    let f := req [7, 2, 0, 0, 0, 9, 0, 0, 0, 9, 0x00, 0x7F, 0xFF, 0xFF]
    ready.part = .ready ∧ f.payload.length = 14 ∧ f.nat 0 1 = (7 : Fin 8).val ∧ f.nat 1 1 = 2 ∧ f.nat 2 2 ≤ f.nat 4 2 ∧
    f.nat 6 2 ≤ f.nat 8 2 ∧ f.int 10 4 = 8388607 ∧ 7 < (req [8]).nat 0 1 ∧ (req [7, 0]).nat 1 1 = 0 ∧
    6 < (req [7, 7]).nat 1 1 ∧ (req [7]).payload.length = 1 ∧ ¬(req [7, 1, 0, 1, 0, 0]).nat 2 2 ≤ (req [7, 1, 0, 1, 0, 0]).nat 4 2 ∧
    (req [7, 4, 0, 0, 0, 9, 0, 0, 0, 9, 0, 0, 4, 0]).int 10 4 = 1024 ∧ ready.cmd.taken = [] ∧
    (State.takeAhead 1 watched).cmd.taken = (List.replicate 5 0) :: [] := by decide +kernel

theorem test_witness_EnablesAndAcknowledgements :
    ready.part = .ready ∧ (req [1, 255]).payload.length = 2 ∧ (req [1, 255]).nat 0 2 = 511 ∧ 511 < (req [2, 0]).nat 0 2 ∧
    (req [1, 255, 255]).payload.length = 3 := by decide +kernel

/-- Every invariant holds of a part right after reset, so a step from there meets the premises of all four. -/
theorem test_witness_invariants_at_reset :
    State.reset.ctb.memory.wf = true ∧ State.reset.catalogueConsistent ∧ State.reset.exposureConsistent ∧
    State.reset.slotsConsistent ∧ step State.reset = .next State.reset.tick := by
  refine ⟨rfl, ?_, ?_, ?_, rfl⟩
  · refine ⟨rfl, ?_, ?_, ?_, ?_⟩ <;> simp [State.reset, Cat.reset]
  · refine ⟨fun c => ⟨?_, ?_⟩, ?_, ?_, ?_, ?_, ?_, ?_⟩
    · cases c <;> (refine ⟨fun _ => rfl, ?_, ?_, ?_, .nil, fun l h => nomatch h⟩ <;>
        simp [State.reset, Exc.reset, State.ctx, Exc.ctx, Context.free])
    · cases c <;> decide
    all_goals simp [State.reset, Exc.reset, Cat.reset, Context.free, State.running, Cmd.reset]
  · refine ⟨rfl, ?_, ?_, ?_, ?_, ?_, ?_, ?_⟩ <;>
      simp [State.reset, Ctb.reset, Table.read, PortState.slot?, queuedSlots]

theorem test_witness_FramesDecodeToTheirCommand :
    (Instr.retire (req [0, 5, 2])).wellFormed = true ∧ (Instr.frameError []).wellFormed = true ∧
    (Instr.unknownRequest 0xFF (req (List.replicate 56 0))).wellFormed = true ∧
    (encode (.retire (req [0, 5, 2]))).isSome = true ∧ encode (.frameError []) = some [] := by decide +kernel

end Sys2Proof.Tests
end

/-! ## Proofs: the requests of the segment catalogue (chapters 1 and 2)

First what a taken request answers, then the staging record and the entries a request names, and with them
PUT FIELD, CLEAR STAGING, UNSTAGE and CLEAR SUSPECT. -/

namespace Sys2Proof.Proofs

open Sys2Proof Sys2Proof.Machine Sys2Proof.Laws

/-! ### What a taken request answers -/

section Requests

variable {s : State} {f : Frame} {fits : Bool} {owner : State → State × Answer} {a : Answer}

/-- The part as the owner of a taken request finds it: the reply slot clocked out, the cursor cancelled (R164). -/
def ownerView (s : State) (f : Frame) : State := (s.clockOut f.length).cancelFor .ordinary

@[simp] theorem ownerView_cat (s : State) (f : Frame) : (ownerView s f).cat = s.cat := rfl

/-- Placing the reply on what the owner found gives the answered part. -/
theorem place_ownerView (s : State) (f : Frame) (c : Cat) (a : Answer) :
    State.place { ownerView s f with cat := c } f.tag a = { s.answered f a.status a.payload with cat := c } := rfl

/-- A taken request whose owner writes the catalogue alone leaves the answered part with that catalogue. -/
theorem request_writes_cat {c : Cat} (hr : s.part = .ready) (hfits : fits = true)
    (ho : owner (ownerView s f) = ({ ownerView s f with cat := c }, a)) :
    s.request .ordinary fits f owner = { s.answered f a.status a.payload with cat := c } := by
  subst hfits
  rw [request_taken s .ordinary f owner (.inl hr)]
  change (owner (ownerView s f)).1.place f.tag (owner (ownerView s f)).2 = _
  rw [ho, place_ownerView]

/-- A taken request whose owner only answers leaves the answered part. -/
theorem request_only_answers (hr : s.part = .ready) (hfits : fits = true)
    (ho : owner (ownerView s f) = (ownerView s f, a)) :
    s.request .ordinary fits f owner = s.answered f a.status a.payload :=
  request_writes_cat (c := s.cat) hr hfits ho

theorem fits_iff (f : Frame) (n : Nat) : f.fits n = true ↔ f.payload.length = n := by simp [Frame.fits]

theorem exec_putField (f : Frame) (s : State) :
    exec (.putField f) s = .next (s.request .ordinary f.fitsPutField f (State.putField f)) := rfl

theorem exec_clearStaging (f : Frame) (s : State) :
    exec (.clearStaging f) s =
      .next (s.request .ordinary (f.fits 0) f fun s => ({ s with cat.staging := Staging.empty }, .ok)) := rfl

theorem exec_unstage (f : Frame) (s : State) :
    exec (.unstage f) s = .next (s.request .ordinary (f.fits 2) f (State.unstage f)) := rfl

theorem exec_clearSuspect (f : Frame) (s : State) :
    exec (.clearSuspect f) s = .next (s.request .ordinary (f.fits 2) f (State.clearSuspect f)) := rfl

end Requests

/-! ### Payload fields -/

/-- Bytes read most significant first give a number below 256 to their count. -/
theorem natOf_lt (bs : List Byte) : natOf bs < 256 ^ bs.length := by
  induction bs using List.reverseRecOn with
  | nil => decide
  | append_singleton bs b ih =>
    have hb : b.toNat < 256 := b.isLt
    have hstep : natOf (bs ++ [b]) = natOf bs * 256 + b.toNat := by simp [natOf]
    rw [hstep, List.length_append, List.length_singleton, Nat.pow_succ]
    omega

/-- A payload field of `n` bytes is below 256 to the `n`, also where the payload ends before it. -/
theorem frameNat_lt (f : Frame) (i n : Nat) : f.nat i n < 256 ^ n :=
  calc f.nat i n < 256 ^ (f.bytes i n).length := natOf_lt _
    _ ≤ 256 ^ n := Nat.pow_le_pow_right (by decide) (List.length_take_le _ _)

/-! ### PUT FIELD and CLEAR STAGING (R7, R9) -/

section PutField

variable {s : State} {f : Frame}

/-- A code that names no field is INVALID 36 (R7). -/
theorem putField_of_code_outside (h : f.nat 0 1 = 0 ∨ 30 < f.nat 0 1) :
    State.putField f s = (s, .invalid 36) := by
  simp only [State.putField]
  exact if_pos (h.imp_left (by omega))

/-- A field code 1 to 30 goes to the staging record, and a value that it does not take is INVALID with that code (R7). -/
theorem putField_of_code_inside (h1 : 1 ≤ f.nat 0 1) (h30 : f.nat 0 1 ≤ 30) :
    State.putField f s = (s.cat.staging.put (f.nat 0 1) f).elim (s, .invalid (f.nat 0 1))
      fun g => ({ s with cat.staging := g }, .ok) := by
  simp only [State.putField]
  rw [if_neg (by omega)]
  cases s.cat.staging.put (f.nat 0 1) f <;> rfl

/-- PUT FIELD by what the staging record makes of the value. -/
theorem exec_putField_of_fits (hr : s.part = .ready) (hfits : f.fitsPutField = true) {code : Nat}
    (hcode : f.nat 0 1 = code) (h1 : 1 ≤ code) (h30 : code ≤ 30) :
    exec (.putField f) s = (s.cat.staging.put code f).elim
      (.next (s.answered f .invalid [BitVec.ofNat 8 code]))
      fun g => .next { s.answered f .ok [] with cat := { s.cat with staging := g } } := by
  subst hcode
  have howner := putField_of_code_inside (s := ownerView s f) h1 h30
  rw [exec_putField]
  cases hput : s.cat.staging.put (f.nat 0 1) f with
  | none =>
    rw [ownerView_cat, hput] at howner
    exact congrArg Host.Outcome.next (request_only_answers hr hfits howner)
  | some g =>
    rw [ownerView_cat, hput] at howner
    exact congrArg Host.Outcome.next (request_writes_cat hr hfits howner)

/-- The payload of a code 1 to 30 other than FLAT's fits when it is the code and the value's bytes (R179). -/
theorem fitsPutField_of_width {code : Nat} (hcode : f.nat 0 1 = code) (h1 : 1 ≤ code) (h30 : code ≤ 30)
    (h11 : code ≠ 11) (hlen : f.payload.length = 1 + fieldWidth code) : f.fitsPutField = true := by
  simp only [Frame.fitsPutField, hcode]
  rw [if_neg (by omega), if_neg (by omega), if_neg h11]
  simpa using hlen

/-- FLAT's payload fits when it is the code, the count, and two bytes for each value counted (R179). -/
theorem fitsPutField_of_flat (hcode : f.nat 0 1 = 11) (h2 : 2 ≤ f.payload.length)
    (hlen : f.payload.length = 2 + 2 * f.nat 1 1) : f.fitsPutField = true := by
  simp only [Frame.fitsPutField, hcode]
  rw [if_neg (by omega), if_neg (by omega), if_pos trivial]
  simpa using ⟨h2, hlen⟩

/-- A code that names no field has no payload length to fit beyond its own byte: the code is what is INVALID (R7). -/
theorem fitsPutField_of_code_outside (hlen : 1 ≤ f.payload.length) (h : f.nat 0 1 = 0 ∨ 30 < f.nat 0 1) :
    f.fitsPutField = true := by
  simp only [Frame.fitsPutField]
  rw [if_neg (by omega), if_pos (by omega)]

/-- The flat list is taken when it has 1 to 16 values and none of them is 0 (R4). -/
theorem flatOf_eq (f : Frame) :
    flatOf f =
      if 1 ≤ f.nat 1 1 ∧ f.nat 1 1 ≤ 16 ∧ 0 ∉ (List.range (f.nat 1 1)).map fun i => f.nat (2 + 2 * i) 2 then
        some ((List.range (f.nat 1 1)).map fun i => f.nat (2 + 2 * i) 2)
      else none := by
  have hpos (vs : List Nat) : (vs.all fun v => 0 < v) = true ↔ 0 ∉ vs := by
    simp only [List.all_eq_true, decide_eq_true_eq, Nat.pos_iff_ne_zero]
    exact ⟨fun h h0 => h 0 h0 rfl, fun h v hv hv0 => h (hv0 ▸ hv)⟩
  simp only [flatOf, hpos]

/-- Above the codes of the single fields stand the placements, by position (R6). -/
theorem put_placement (g : Staging) (code : Nat) (f : Frame) (h : 15 ≤ code) :
    g.put code f = (placementOf f).map fun p => { g with defects := g.defects.write (code - 15) p } := by
  unfold Staging.put
  split
  case h_15 => rfl
  all_goals omega

end PutField

/-! ### A value in its range, written and answered -/

section Ranges

variable {α β γ : Type}

/-- A value taken under a condition, then written: the condition decides between the two answers. -/
theorem elim_map_ite (p : Prop) [Decidable p] (v : α) (k : α → β) (bad : γ) (put : β → γ) :
    ((if p then some v else none).map k).elim bad put = if p then put (k v) else bad := by
  split <;> rfl

/-- A two-byte value from 1 on needs no test of its upper end. -/
theorem elim_inRange_twoBytes (f : Frame) (i : Nat) (k : Nat → β) (bad : γ) (put : β → γ) :
    ((inRange 1 65535 (f.nat i 2)).map k).elim bad put = if 1 ≤ f.nat i 2 then put (k (f.nat i 2)) else bad := by
  have hlt : f.nat i 2 < 65536 := frameNat_lt f i 2
  simp only [inRange, show f.nat i 2 ≤ 65535 by omega, and_true, elim_map_ite]

/-- A one-byte value from 1 on needs no test of its upper end. -/
theorem elim_inRange_oneByte (f : Frame) (i : Nat) (k : Nat → β) (bad : γ) (put : β → γ) :
    ((inRange 1 255 (f.nat i 1)).map k).elim bad put = if 1 ≤ f.nat i 1 then put (k (f.nat i 1)) else bad := by
  have hlt : f.nat i 1 < 256 := frameNat_lt f i 1
  simp only [inRange, show f.nat i 1 ≤ 255 by omega, and_true, elim_map_ite]

/-- A value from 0 on needs no test of its lower end. -/
theorem elim_inRange_zero (hi v : Nat) (k : Nat → β) (bad : γ) (put : β → γ) :
    ((inRange 0 hi v).map k).elim bad put = if v ≤ hi then put (k v) else bad := by
  simp only [inRange, Nat.zero_le, true_and, elim_map_ite]

/-- A step of the geometry is written when it is in its range, and refused when it is not (R4). -/
theorem elim_stepInRange (v : Int) (k : Int → β) (bad : γ) (put : β → γ) :
    (-131072 ≤ v ∧ v ≤ 131072 → ((stepInRange v).map k).elim bad put = put (k v)) ∧
    (¬(-131072 ≤ v ∧ v ≤ 131072) → ((stepInRange v).map k).elim bad put = bad) := by
  rw [stepInRange, elim_map_ite]
  exact ⟨fun h => if_pos h, fun h => if_neg h⟩

end Ranges

/-- Settles O13: the payload fits, so the reply and the staging record are what `Staging.put` makes of the value, and
each field's range is read off the field's own equation. -/
theorem putFieldMakesOneFieldPresent : Obligations.PutFieldMakesOneFieldPresent := by
  intro s f hr code run g put bad two one step stepIn
  have byWidth {n : Nat} (hc : code = n) (hn : 1 ≤ n ∧ n ≤ 30 ∧ n ≠ 11)
      (hlen : f.payload.length = 1 + fieldWidth n) : run = (g.put n f).elim bad put := by
    obtain ⟨h1, h30, h11⟩ := hn
    subst hc
    exact exec_putField_of_fits hr (fitsPutField_of_width rfl h1 h30 h11 hlen) rfl h1 h30
  refine ⟨?outside, fun hlen => ⟨?rows, ?cols, ?bias, ?gain, ?saturation⟩,
    fun hlen => ⟨?originX, ?originY, ?colStepX, ?colStepY, ?rowStepX, ?rowStepY⟩,
    fun hlen => ⟨?weight, ?defectCount⟩, ?flat, ?placement⟩
  case outside =>
    intro hlen hout
    exact (exec_putField f s).trans (congrArg Host.Outcome.next
      (request_only_answers hr (fitsPutField_of_code_outside hlen hout) (putField_of_code_outside hout)))
  case rows | cols => exact fun hc => (byWidth hc (by decide) hlen).trans (elim_map_ite ..)
  case bias | originX | originY => exact fun hc => byWidth hc (by decide) hlen
  case gain | saturation => exact fun hc => (byWidth hc (by decide) hlen).trans (elim_inRange_twoBytes ..)
  case colStepX | colStepY | rowStepX | rowStepY =>
    exact fun hc => byWidth hc (by decide) hlen ▸ elim_stepInRange ..
  case weight => exact fun hc => (byWidth hc (by decide) hlen).trans (elim_inRange_oneByte ..)
  case defectCount => exact fun hc => (byWidth hc (by decide) hlen).trans (elim_inRange_zero ..)
  case flat =>
    intro hc h2 hlen vs
    have hrun : run = (g.put 11 f).elim bad put := hc ▸
      exec_putField_of_fits hr (fitsPutField_of_flat hc h2 hlen) rfl (by omega) (by omega)
    have hput : g.put 11 f = (flatOf f).map fun vs => { g with flat := some vs } := rfl
    rw [hrun, hput, flatOf_eq, elim_map_ite]
  case placement =>
    intro h15 h30 hlen
    have hwidth : fieldWidth code = 5 := by
      unfold fieldWidth
      split_ifs <;> omega
    have hrun := byWidth rfl ⟨by omega, h30, by omega⟩ (hwidth ▸ hlen)
    rw [hrun, put_placement g code f h15, placementOf, elim_map_ite]

/-- Settles O14: the owner writes the empty record and answers OK, whatever it finds. -/
theorem clearStagingMakesEveryFieldAbsent : Obligations.ClearStagingMakesEveryFieldAbsent := by
  intro s f hr hpayload
  have hfits : f.fits 0 = true := (fits_iff f 0).2 (by rw [hpayload, List.length_nil])
  rw [exec_clearStaging]
  exact congrArg Host.Outcome.next
    (request_writes_cat (c := { s.cat with staging := Staging.empty }) (a := .ok) hr hfits rfl)

/-! ### Requests that name an entry (R2, R14, R16, R28) -/

section NamedEntry

variable {s : State} {seg i : Nat} {e : Entry} {act : State × Answer} {onIt : Entry → State × Answer}

theorem changing_of_bad_segment (h : 1023 < seg) : s.changing seg act = (s, .invalid 32) := if_pos h

theorem changing_of_busy (h : seg ≤ 1023) (hb : s.catalogueBusy = true) :
    s.changing seg act = (s, .refuse .busy) := by
  rw [State.changing, if_neg (Nat.not_lt.2 h), if_pos hb]

theorem changing_of_free (h : seg ≤ 1023) (hb : s.catalogueBusy = false) : s.changing seg act = act := by
  rw [State.changing, if_neg (Nat.not_lt.2 h), if_neg (Bool.eq_false_iff.1 hb)]

theorem onEntry_of_none (h : s.cat.find seg = none) : s.onEntry seg onIt = (s, .refuse .unknownSegment) := by
  simp only [State.onEntry, h]

theorem onEntry_of_some (h : s.cat.find seg = some (i, e)) : s.onEntry seg onIt = onIt e := by
  simp only [State.onEntry, h]

/-- A change of one segment's entry disturbs a walk that has folded it (R24). -/
theorem disturb_singleton (c : Cat) (seg : Nat) : c.disturb [seg] = { c with sign := c.sign.after seg } := by
  simp only [Cat.disturb, Signature.after, List.any_cons, List.any_nil, Bool.or_false, decide_eq_true_eq]
  split <;> rfl

/-- An entry that becomes VACANT is no longer listed, and the walk is disturbed if it has folded it (R14, R24). -/
theorem vacate_eq (s : State) (seg : Nat) :
    s.vacate seg = { s with cat := { s.cat with
      entries := s.cat.entries.filter fun k => k.2.seg != seg
      sign := s.cat.sign.after seg } } := by
  rw [State.vacate, disturb_singleton]

/-- UNSTAGE of a PENDING entry (R14). -/
theorem unstage_of_pending {f : Frame} (h : f.nat 0 2 ≤ 1023) (hb : s.catalogueBusy = false)
    (hfind : s.cat.find (f.nat 0 2) = some (i, e)) (he : e.state = .pending) :
    State.unstage f s = (s.vacate (f.nat 0 2), .ok) := by
  rw [State.unstage, changing_of_free h hb, onEntry_of_some hfind]
  simp only [he]

/-- UNSTAGE of a LIVE entry (R14). -/
theorem unstage_of_live {f : Frame} (h : f.nat 0 2 ≤ 1023) (hb : s.catalogueBusy = false)
    (hfind : s.cat.find (f.nat 0 2) = some (i, e)) (he : e.state = .live) :
    State.unstage f s = (s.changeEntry (f.nat 0 2) fun k => { k with staged := none }, .ok) := by
  rw [State.unstage, changing_of_free h hb, onEntry_of_some hfind]
  simp only [he]

/-- UNSTAGE of a RETIRING entry (R14). -/
theorem unstage_of_retiring {f : Frame} (h : f.nat 0 2 ≤ 1023) (hb : s.catalogueBusy = false)
    (hfind : s.cat.find (f.nat 0 2) = some (i, e)) (he : e.state = .retiring) :
    State.unstage f s = (s, .refuse .state) := by
  rw [State.unstage, changing_of_free h hb, onEntry_of_some hfind]
  simp only [he]

/-- CLEAR SUSPECT of the entry of a segment, whatever its state (R16). -/
theorem clearSuspect_of_entry {f : Frame} (h : f.nat 0 2 ≤ 1023) (hb : s.catalogueBusy = false)
    (hfind : s.cat.find (f.nat 0 2) = some (i, e)) :
    State.clearSuspect f s = (s.changeEntry (f.nat 0 2) fun k => { k with suspect := false, broken := 0 }, .ok) := by
  rw [State.clearSuspect, changing_of_free h hb, onEntry_of_some hfind]

end NamedEntry

/-- Settles O19: the segment id, BUSY and the lookup refuse in that order; then the state of the entry found decides. -/
theorem unstageFollowsTheEntryTable : Obligations.UnstageFollowsTheEntryTable := by
  intro s f hr hlen seg run
  have hfits : f.fits 2 = true := (fits_iff f 2).2 hlen
  have answers {a : Answer} (ho : State.unstage f (ownerView s f) = (ownerView s f, a)) :
      run = .next (s.answered f a.status a.payload) :=
    (exec_unstage f s).trans (congrArg Host.Outcome.next (request_only_answers hr hfits ho))
  have writes {c : Cat} (ho : State.unstage f (ownerView s f) = ({ ownerView s f with cat := c }, .ok)) :
      run = .next { s.answered f .ok [] with cat := c } :=
    (exec_unstage f s).trans (congrArg Host.Outcome.next (request_writes_cat hr hfits ho))
  refine ⟨fun hseg => answers (changing_of_bad_segment hseg), fun hseg hb => answers (changing_of_busy hseg hb),
    fun hseg hb => ⟨fun hnone => ?_, fun i e hfind => ⟨fun he => ?_, fun he => ?_, fun he => ?_⟩⟩⟩
  · exact answers ((changing_of_free (s := ownerView s f) hseg hb).trans (onEntry_of_none hnone))
  · exact writes ((unstage_of_pending (s := ownerView s f) hseg hb hfind he).trans (by rw [vacate_eq]; rfl))
  · exact writes (unstage_of_live hseg hb hfind he)
  · exact answers (unstage_of_retiring hseg hb hfind he)

/-- Settles O21: the refusals are those of every request that names an entry; then the entry found is written, and no
attention flag, for the owner writes the catalogue alone. -/
theorem clearSuspectClearsFlagAndCount : Obligations.ClearSuspectClearsFlagAndCount := by
  intro s f hr hlen seg
  have hfits : f.fits 2 = true := (fits_iff f 2).2 hlen
  have answers {a : Answer} (ho : State.clearSuspect f (ownerView s f) = (ownerView s f, a)) :
      exec (.clearSuspect f) s = .next (s.answered f a.status a.payload) :=
    (exec_clearSuspect f s).trans (congrArg Host.Outcome.next (request_only_answers hr hfits ho))
  refine ⟨fun hseg => answers (changing_of_bad_segment hseg), fun hseg hb => answers (changing_of_busy hseg hb),
    fun hseg hb hnone => ?_, fun i e hseg hb hfind => ?_⟩
  · exact answers ((changing_of_free (s := ownerView s f) hseg hb).trans (onEntry_of_none hnone))
  · rw [exec_clearSuspect]
    exact congrArg Host.Outcome.next (request_writes_cat hr hfits (clearSuspect_of_entry hseg hb hfind))


end Sys2Proof.Proofs

/-! ## Proofs: the placement engine (chapter 5)

The position of a pixel (R98, R99) and its calibrated value (R97). The model computes both with a division; the lemmas
say by inequalities what that division does. -/

namespace Sys2Proof.Proofs

open Sys2Proof Sys2Proof.Machine Sys2Proof.Laws

/-! ### Positions rounded half up -/

/-- The "largest integer not greater than" of R98. -/
theorem skyCoord_eq_iff (p n : Int) : skyCoord p = n ↔ 65536 * n ≤ p + 32768 ∧ p + 32768 < 65536 * (n + 1) := by
  unfold skyCoord
  omega

/-- The grid test of R99 leaves exactly the coordinates that 16 bits hold. -/
theorem skyPixel_eq_some (v : Version) (r c x y : Nat) :
    v.skyPixel r c = some (x, y) ↔
      x ≤ 65535 ∧ y ≤ 65535 ∧ skyCoord (v.posX r c) = x ∧ skyCoord (v.posY r c) = y := by
  simp only [Version.skyPixel]
  split
  case isTrue onGrid =>
    simp only [Option.some.injEq, Prod.mk.injEq]
    omega
  case isFalse offGrid =>
    simp only [reduceCtorEq, false_iff]
    omega

/-! ### Division to nearest, ties away from zero -/

/-- `roundDiv` rounds the magnitude half up and keeps the sign. -/
theorem natAbs_roundDiv (a : Int) (b : Nat) : (roundDiv a b).natAbs = (2 * a.natAbs + b) / (2 * b) := by
  rw [roundDiv, Int.natAbs_mul, Int.natAbs_natCast]
  rcases eq_or_ne a 0 with rfl | ha
  · have half_lt : b / (2 * b) = 0 := by
      rcases b.eq_zero_or_pos with rfl | hb
      · rfl
      · exact Nat.div_eq_of_lt (by omega)
    simp [half_lt]
  · rw [Int.natAbs_sign_of_ne_zero ha, one_mul]

/-- What a rounded quotient misses is the same for the number and for its magnitude, which is rounded half up. -/
theorem natAbs_sub_mul_roundDiv (a : Int) (b : Nat) :
    (a - b * roundDiv a b).natAbs = ((a.natAbs : Int) - b * (roundDiv a b).natAbs).natAbs := by
  have signed : a - b * roundDiv a b = a.sign * ((a.natAbs : Int) - b * (roundDiv a b).natAbs) := by
    rw [natAbs_roundDiv, mul_sub, Int.sign_mul_natAbs, roundDiv]
    ring
  rcases eq_or_ne a 0 with rfl | ha
  · simp [roundDiv]
  · rw [signed, Int.natAbs_mul, Int.natAbs_sign_of_ne_zero ha, one_mul]

/-- The bounds that define rounding a magnitude half up. -/
theorem roundDiv_bounds (a : Int) {b : Nat} (hb : 0 < b) :
    2 * (b * (roundDiv a b).natAbs) ≤ 2 * a.natAbs + b ∧ 2 * a.natAbs < 2 * (b * (roundDiv a b).natAbs) + b := by
  have low := Nat.mul_div_le (2 * a.natAbs + b) (2 * b)
  have high := Nat.lt_mul_div_succ (2 * a.natAbs + b) (show 0 < 2 * b by omega)
  rw [← natAbs_roundDiv, mul_assoc] at low
  rw [← natAbs_roundDiv, mul_add_one, mul_assoc] at high
  omega

theorem roundDiv_nearest (a : Int) {b : Nat} (hb : 0 < b) : 2 * (a - b * roundDiv a b).natAbs ≤ b := by
  obtain ⟨low, high⟩ := roundDiv_bounds a hb
  rw [natAbs_sub_mul_roundDiv, ← Nat.cast_mul]
  omega

theorem roundDiv_tie_away (a : Int) {b : Nat} (hb : 0 < b) (tie : 2 * (a - b * roundDiv a b).natAbs = b) :
    a.natAbs < b * (roundDiv a b).natAbs := by
  obtain ⟨low, high⟩ := roundDiv_bounds a hb
  rw [natAbs_sub_mul_roundDiv, ← Nat.cast_mul] at tie
  omega

/-- A quotient of a number within a multiple of the divisor stays within that multiple. -/
theorem natAbs_roundDiv_le {a : Int} {b m : Nat} (hb : 0 < b) (ha : a.natAbs ≤ b * m) : (roundDiv a b).natAbs ≤ m := by
  have below : 2 * a.natAbs + b < 2 * b * (m + 1) := by
    rw [mul_assoc, mul_add_one]
    omega
  rw [natAbs_roundDiv]
  exact Nat.le_of_lt_succ (Nat.div_lt_of_lt_mul below)

/-! ### The product of R97 -/

/-- The product of R97 on 16-bit operands fits in 48 bits. -/
theorem natAbs_product_le {p bias gain flat : Nat} (hp : p ≤ 65535) (hb : bias ≤ 65535) (hg : gain ≤ 65535)
    (hf : flat ≤ 65535) : (((p : Int) - bias) * gain * flat).natAbs ≤ 65535 * 65535 * 65535 := by
  have difference : ((p : Int) - bias).natAbs ≤ 65535 := by omega
  rw [Int.natAbs_mul, Int.natAbs_mul, Int.natAbs_natCast, Int.natAbs_natCast]
  gcongr

/-- Settles O46: the position by the grid test and the rounding of each coordinate; the value by the rounded quotient of
the product, which on 16-bit operands the clamp never changes. -/
theorem pixelPositionAndValueAreRounded : Obligations.PixelPositionAndValueAreRounded := by
  intro v
  refine ⟨fun r c x y => ?_, fun c p => ⟨roundDiv _ 134217728, rfl, ?_⟩⟩
  · rw [skyPixel_eq_some, skyCoord_eq_iff, skyCoord_eq_iff, and_assoc]
    rfl
  · have divisor_pos : 0 < 134217728 := by decide
    refine ⟨roundDiv_nearest _ divisor_pos, roundDiv_tie_away _ divisor_pos, fun hp hb hg hf => ?_⟩
    have within : 65535 * 65535 * 65535 ≤ 134217728 * 8388607 := by decide
    exact natAbs_roundDiv_le divisor_pos ((natAbs_product_le hp hb hg hf).trans within)

end Sys2Proof.Proofs

/-! ## Proofs: watches and attention (chapter 8)

SET WATCH, CLEAR WATCH, SET ENABLE and ACKNOWLEDGE. Each of them writes the watch records and the attention unit at
most, so one rule says what the part is after it; the rest is which test an argument fails first. -/

namespace Sys2Proof.Proofs

open Sys2Proof Sys2Proof.Machine Sys2Proof.Laws

/-! ### What a taken request of the two units answers -/

section WatchRequests

variable {s : State} {f : Frame}

/-- A taken request whose owner writes the watches and the attention unit alone leaves the answered part with those. -/
theorem request_writes_watches_att {fits : Bool} {owner : State → State × Answer} {a : Answer} {ws : Vector Watch 8}
    {att : Att} (hr : s.part = .ready) (hfits : fits = true)
    (ho : owner (ownerView s f) = ({ ownerView s f with watches := ws, att := att }, a)) :
    s.request .ordinary fits f owner = { s.answered f a.status a.payload with watches := ws, att := att } := by
  subst hfits
  rw [request_taken s .ordinary f owner (.inl hr)]
  change (owner (ownerView s f)).1.place f.tag (owner (ownerView s f)).2 = _
  rw [ho]
  rfl

/-- SET WATCH in its turn, when it was not taken ahead of it. -/
theorem exec_setWatch_of_untaken (h : s.cmd.taken = []) :
    exec (.setWatch f) s = .next (s.request .ordinary (f.fits 14) f (State.setWatch f)) :=
  congrArg Host.Outcome.next (inTurn_of_nil s _ h)

/-- CLEAR WATCH in its turn, when it was not taken ahead of it. -/
theorem exec_clearWatch_of_untaken (h : s.cmd.taken = []) :
    exec (.clearWatch f) s = .next (s.request .ordinary (f.fits 1) f (State.clearWatch f)) :=
  congrArg Host.Outcome.next (inTurn_of_nil s _ h)

/-- ACKNOWLEDGE in its turn, when it was not taken ahead of it. -/
theorem exec_acknowledge_of_untaken (h : s.cmd.taken = []) :
    exec (.acknowledge f) s = .next (s.request .ordinary (f.fits 3) f (State.acknowledge f)) :=
  congrArg Host.Outcome.next (inTurn_of_nil s _ h)

theorem exec_setEnable (f : Frame) (s : State) :
    exec (.setEnable f) s = .next (s.request .ordinary (f.fits 2) f (State.setEnable f)) := rfl

end WatchRequests

/-! ### Watch numbers, kinds and thresholds (R149, R152) -/

theorem watchNumberOf_of_gt {n : Nat} (h : 7 < n) : watchNumberOf n = none := dif_neg (by omega)

theorem watchNumberOf_of_eq {n : Nat} {w : Fin 8} (h : n = w.val) : watchNumberOf n = some w := by
  subst h
  exact dif_pos w.isLt

theorem exists_watchNumberOf {n : Nat} (h : n ≤ 7) : ∃ w, watchNumberOf n = some w :=
  ⟨⟨n, by omega⟩, watchNumberOf_of_eq rfl⟩

theorem watchKindOf_code (k : WatchKind) : watchKindOf k.code = some k := by cases k <;> rfl

/-- The codes 1 to 6 are the codes of the kinds. -/
theorem exists_kind_of_code {n : Nat} (h1 : 1 ≤ n) (h6 : n ≤ 6) : ∃ k : WatchKind, n = k.code := by
  interval_cases n
  exacts [⟨.covered, rfl⟩, ⟨.peakAbove, rfl⟩, ⟨.saturated, rfl⟩, ⟨.segment, rfl⟩, ⟨.cellDone, rfl⟩,
    ⟨.cellPartial, rfl⟩]

theorem watchKindOf_of_outside {n : Nat} (h : n = 0 ∨ 6 < n) : watchKindOf n = none := by
  unfold watchKindOf
  split
  case h_7 => rfl
  all_goals omega

/-- The kinds stand in the order of their codes. -/
theorem kinds_getD_code (k : WatchKind) :
    ([.covered, .peakAbove, .saturated, .segment, .cellDone, .cellPartial] : List WatchKind).getD (k.code - 1)
      .covered = k := by
  cases k <;> rfl

/-- Only PEAK_ABOVE and SEGMENT, of codes 2 and 4, bound their threshold. -/
theorem thresholdFits_iff (k : WatchKind) (t : Int) :
    thresholdFits k t = true ↔
      (k.code = 2 → -8388607 ≤ t ∧ t ≤ 8388607) ∧ (k.code = 4 → 0 ≤ t ∧ t ≤ 1023) := by
  cases k <;> simp [thresholdFits, WatchKind.code, Config.valueMax]

/-- Only PEAK_ABOVE and SEGMENT, of codes 2 and 4, record their threshold. -/
theorem thresholdOf_eq (k : WatchKind) (t : Int) :
    thresholdOf k t = if k.code = 2 ∨ k.code = 4 then t else 0 := by
  cases k <;> rfl

/-- The setting that a frame of SET WATCH gives a watch of a kind (R152). -/
def frameSetting (f : Frame) (k : WatchKind) : WatchSetting where
  kind := k
  x0 := f.nat 2 2
  x1 := f.nat 4 2
  y0 := f.nat 6 2
  y1 := f.nat 8 2
  threshold := thresholdOf k (f.int 10 4)

/-- The setting of a frame, by the code of its kind. -/
theorem frameSetting_eq {f : Frame} {k : WatchKind} {code : Nat} (hk : code = k.code) :
    frameSetting f k =
      { kind := ([.covered, .peakAbove, .saturated, .segment, .cellDone, .cellPartial] : List WatchKind).getD
          (code - 1) .covered
        x0 := f.nat 2 2, x1 := f.nat 4 2, y0 := f.nat 6 2, y1 := f.nat 8 2
        threshold := if code = 2 ∨ code = 4 then f.int 10 4 else 0 } := by
  subst hk
  rw [kinds_getD_code, ← thresholdOf_eq]
  rfl

/-! ### SET WATCH and CLEAR WATCH at the watch unit (R152, R153) -/

section WatchUnit

variable {s : State} {f : Frame} {w : Fin 8} {k : WatchKind}

theorem setWatch_of_bad_number (h : 7 < f.nat 0 1) : State.setWatch f s = (s, .invalid 42) := by
  simp only [State.setWatch, watchNumberOf_of_gt h]

theorem setWatch_of_bad_kind (hw : watchNumberOf (f.nat 0 1) = some w) (h : f.nat 1 1 = 0 ∨ 6 < f.nat 1 1) :
    State.setWatch f s = (s, .invalid 43) := by
  simp only [State.setWatch, hw, watchKindOf_of_outside h]

theorem setWatch_of_bad_region (hw : watchNumberOf (f.nat 0 1) = some w) (hk : f.nat 1 1 = k.code)
    (h : ¬(f.nat 2 2 ≤ f.nat 4 2 ∧ f.nat 6 2 ≤ f.nat 8 2)) : State.setWatch f s = (s, .invalid 44) := by
  simp only [State.setWatch, hw, hk, watchKindOf_code]
  exact if_pos (by omega)

theorem setWatch_of_bad_threshold (hw : watchNumberOf (f.nat 0 1) = some w) (hk : f.nat 1 1 = k.code)
    (hregion : f.nat 2 2 ≤ f.nat 4 2 ∧ f.nat 6 2 ≤ f.nat 8 2) (h : thresholdFits k (f.int 10 4) = false) :
    State.setWatch f s = (s, .invalid 45) := by
  simp only [State.setWatch, hw, hk, watchKindOf_code]
  rw [if_neg (by omega), if_pos h]

/-- SET WATCH with good arguments arms the watch anew, without a hit (R152). -/
theorem setWatch_of_good (hw : watchNumberOf (f.nat 0 1) = some w) (hk : f.nat 1 1 = k.code)
    (hregion : f.nat 2 2 ≤ f.nat 4 2 ∧ f.nat 6 2 ≤ f.nat 8 2) (h : thresholdFits k (f.int 10 4) = true) :
    State.setWatch f s =
      ({ s with watches := s.watches.set w { setting := some (frameSetting f k), count := 0, first := none } },
        .ok) := by
  simp only [State.setWatch, hw, hk, watchKindOf_code]
  rw [if_neg (by omega), if_neg (by simp [h])]
  rfl

theorem clearWatch_of_bad_number (h : 7 < f.nat 0 1) : State.clearWatch f s = (s, .invalid 42) := by
  simp only [State.clearWatch, watchNumberOf_of_gt h]

theorem clearWatch_of_number (hw : watchNumberOf (f.nat 0 1) = some w) :
    State.clearWatch f s = ({ s with watches := s.watches.set w Watch.cleared }, .ok) := by
  simp only [State.clearWatch, hw]

end WatchUnit

/-- Settles O53: the number, the kind, the region and the threshold refuse in that order; with none of them refusing the
owner writes the one record. -/
theorem setWatchReplacesTheRecord : Obligations.SetWatchReplacesTheRecord := by
  intro s f hr htaken number kind ordered threshold fits set
  refine ⟨fun hlen => ?setWatch, fun hlen => ?clearWatch⟩
  case setWatch =>
    have hfits : f.fits 14 = true := (fits_iff f 14).2 hlen
    have answers {a : Answer} (ho : State.setWatch f (ownerView s f) = (ownerView s f, a)) :
        set = .next (s.answered f a.status a.payload) :=
      (exec_setWatch_of_untaken htaken).trans (congrArg Host.Outcome.next (request_only_answers hr hfits ho))
    refine ⟨fun hbad => answers (setWatch_of_bad_number hbad), fun hn hbad => ?kind, fun hn h1 h6 hbad => ?region,
      fun hn h1 h6 hregion hbad => ?threshold, fun w hn h1 h6 hregion hgood => ?good⟩
    case kind =>
      obtain ⟨w, hw⟩ := exists_watchNumberOf hn
      exact answers (setWatch_of_bad_kind hw hbad)
    case region =>
      obtain ⟨w, hw⟩ := exists_watchNumberOf hn
      obtain ⟨k, hk⟩ := exists_kind_of_code h1 h6
      exact answers (setWatch_of_bad_region hw hk hbad)
    case threshold =>
      obtain ⟨w, hw⟩ := exists_watchNumberOf hn
      obtain ⟨k, hk⟩ := exists_kind_of_code h1 h6
      have hunfit : ¬thresholdFits k threshold = true := by
        rw [thresholdFits_iff, ← hk]
        exact hbad
      exact answers (setWatch_of_bad_threshold hw hk hregion (Bool.eq_false_iff.2 hunfit))
    case good =>
      obtain ⟨k, hk⟩ := exists_kind_of_code h1 h6
      have hfit : thresholdFits k threshold = true := by
        rw [thresholdFits_iff, ← hk]
        exact hgood
      have hrecord := setWatch_of_good (s := ownerView s f) (watchNumberOf_of_eq hn) hk hregion hfit
      rw [frameSetting_eq hk] at hrecord
      exact (exec_setWatch_of_untaken htaken).trans
        (congrArg Host.Outcome.next (request_writes_watches_att hr hfits hrecord))
  case clearWatch =>
    have hfits : f.fits 1 = true := (fits_iff f 1).2 hlen
    rw [exec_clearWatch_of_untaken htaken]
    refine ⟨fun hbad => ?number, fun w hn => ?good⟩
    case number => exact congrArg Host.Outcome.next (request_only_answers hr hfits (clearWatch_of_bad_number hbad))
    case good =>
      have hrecord := clearWatch_of_number (s := ownerView s f) (watchNumberOf_of_eq hn)
      exact congrArg Host.Outcome.next (request_writes_watches_att hr hfits hrecord)

/-! ### SET ENABLE and ACKNOWLEDGE at the attention unit (R155, R157, R158, R159) -/

/-- The line is asserted by one cause with both its bits set (R157). -/
theorem line_iff (a : Att) : a.line = true ↔ ∃ i < 9, a.flags.getLsbD i = true ∧ a.enables.getLsbD i = true := by
  have hzero : a.flags &&& a.enables = 0 ↔ ∀ i < 9, (a.flags &&& a.enables).getLsbD i = false :=
    ⟨fun h i _ => by rw [h]; exact BitVec.getLsbD_zero, fun h => BitVec.eq_of_getLsbD_eq fun i hi => by
      rw [h i hi]; exact BitVec.getLsbD_zero.symm⟩
  rw [Att.line, bne_iff_ne, ne_eq, hzero]
  simp only [BitVec.getLsbD_and, not_forall, Bool.not_eq_false, Bool.and_eq_true, exists_prop]

theorem causeSetOf_of_gt {n : Nat} (h : 511 < n) : causeSetOf n = none := if_neg (by omega)

theorem causeSetOf_of_le {n : Nat} (h : n ≤ 511) : causeSetOf n = some (BitVec.ofNat 9 n) := if_pos (by omega)

/-- A payload field of one byte is that byte, and 0 past the end of the payload. -/
theorem frameNat_one (f : Frame) (i : Nat) : f.nat i 1 = (f.payload.getD i 0).toNat := by
  rw [Frame.nat, Frame.bytes, List.take_one, List.head?_drop, List.getD_eq_getElem?_getD]
  cases f.payload[i]? <;> simp [natOf]

/-- The watches a mask names lose their hit state, and the others stay (R155). -/
theorem acknowledgeWatches_get (ws : Vector Watch 8) (mask : BitVec 8) (w : Fin 8) :
    (acknowledgeWatches ws mask)[w] =
      if mask.getLsbD w.val = true then { ws[w] with count := 0, first := none } else ws[w] :=
  Vector.getElem_mapIdx w.isLt

section AttentionUnit

variable {s : State} {f : Frame}

theorem setEnable_of_bad_set (h : 511 < f.nat 0 2) : State.setEnable f s = (s, .invalid 46) := by
  simp only [State.setEnable, causeSetOf_of_gt h]

/-- SET ENABLE replaces the enables and answers the flags as they are (R158). -/
theorem setEnable_of_set (h : f.nat 0 2 ≤ 511) :
    State.setEnable f s = ({ s with att.enables := BitVec.ofNat 9 (f.nat 0 2) },
      { status := .ok, payload := flagBytes s.att.flags }) := by
  simp only [State.setEnable, causeSetOf_of_le h]

theorem acknowledge_of_bad_set (h : 511 < f.nat 0 2) : State.acknowledge f s = (s, .invalid 46) := by
  simp only [State.acknowledge, causeSetOf_of_gt h]

/-- ACKNOWLEDGE clears the named flags and the hit states of its mask, and answers the flags then left (R159). -/
theorem acknowledge_of_set (h : f.nat 0 2 ≤ 511) :
    State.acknowledge f s =
      ({ s with
          att.flags := s.att.flags &&& ~~~BitVec.ofNat 9 (f.nat 0 2)
          watches := acknowledgeWatches s.watches (f.payload.getD 2 0) },
        { status := .ok, payload := flagBytes (s.att.flags &&& ~~~BitVec.ofNat 9 (f.nat 0 2)) }) := by
  simp only [State.acknowledge, causeSetOf_of_le h]

end AttentionUnit

/-- Settles O54: the cause set decides whether the request is refused; taken, the owner writes the attention unit and,
for ACKNOWLEDGE, the watches of its mask. -/
theorem enablesAndAcknowledgements : Obligations.EnablesAndAcknowledgements := by
  intro s f hr set
  refine ⟨line_iff s.att, fun hlen => ?setEnable, fun hlen htaken => ?acknowledge⟩
  case setEnable =>
    have hfits : f.fits 2 = true := (fits_iff f 2).2 hlen
    rw [exec_setEnable]
    exact ⟨fun hbad => congrArg Host.Outcome.next (request_only_answers hr hfits (setEnable_of_bad_set hbad)),
      fun hset => congrArg Host.Outcome.next (request_writes_watches_att hr hfits (setEnable_of_set hset))⟩
  case acknowledge =>
    have hfits : f.fits 3 = true := (fits_iff f 3).2 hlen
    rw [exec_acknowledge_of_untaken htaken]
    refine ⟨fun hbad => congrArg Host.Outcome.next (request_only_answers hr hfits (acknowledge_of_bad_set hbad)),
      fun hset => ⟨_, congrArg Host.Outcome.next (request_writes_watches_att hr hfits (acknowledge_of_set hset)), rfl,
        fun w => ?_⟩⟩
    rw [frameNat_one, BitVec.testBit_toNat]
    exact acknowledgeWatches_get s.watches (f.payload.getD 2 0) w

end Sys2Proof.Proofs

/-! ## Proofs: frame errors at the command port (chapter 9)

Two facts about the decoder: its check is the list of R162, and no frame that passes it is read as a frame error. Then
what FRAME ERROR does to the part. -/

namespace Sys2Proof.Proofs

open Sys2Proof Sys2Proof.Machine Sys2Proof.Laws

/-! ### Which frames are frame errors -/

/-- The check of a frame's form fails where one of the four conditions of R162 holds. -/
theorem isFrameError_iff (bs : List Byte) :
    isFrameError bs = true ↔
      bs.length < 3 ∨ 56 < declaredLength bs ∨ bs.length < 4 + declaredLength bs ∨
        bs.getD (3 + declaredLength bs) 0 ≠ crc8 (bs.take (3 + declaredLength bs)) := by
  simp only [isFrameError, Bool.or_eq_true, decide_eq_true_eq, bne_iff_ne, or_assoc]

/-- The request that a kind names is a good frame of that kind, with the frame it was read from. -/
theorem kindAndFrame_of_requestOf {kind : Byte} {f : Frame} {i : Instr} (h : requestOf kind f = some i) :
    kindAndFrame i = some (kind, f) := by
  unfold requestOf at h
  split at h
  case h_34 => nomatch h
  all_goals
    next hkind =>
      obtain rfl := Option.some.inj h
      exact congrArg (fun k => some (k, f)) (BitVec.eq_of_toNat_eq hkind).symm

theorem decodeFrame_of_error {bs : List Byte} (h : isFrameError bs = true) : decodeFrame bs = .frameError bs := if_pos h

/-- A frame that passes the check is read as a good frame, with its own kind byte: a request or an unknown request
(R164). -/
theorem kindAndFrame_decodeFrame_of_good {bs : List Byte} (h : isFrameError bs = false) :
    kindAndFrame (decodeFrame bs) = some (bs.getD 0 0, frameOf bs) := by
  rw [decodeFrame, if_neg (by simp [h])]
  cases named : requestOf (bs.getD 0 0) (frameOf bs) with
  | none => rfl
  | some i => exact kindAndFrame_of_requestOf named

/-- The decoder answers a frame error for the frames whose check fails and for no other, for a frame error is no good
frame. -/
theorem decodeFrame_eq_frameError_iff (bs : List Byte) :
    decodeFrame bs = .frameError bs ↔ isFrameError bs = true := by
  refine ⟨fun h => ?_, decodeFrame_of_error⟩
  by_contra passes
  have good := kindAndFrame_decodeFrame_of_good (Bool.eq_false_of_not_eq_true passes)
  rw [h] at good
  nomatch good

/-! ### What a frame error does -/

/-- The counts of the command port stop at the largest value of 32 bits (R169). -/
theorem countUp_eq (n : Nat) : countUp n = min 4294967295 (n + 1) := rfl

/-- FRAME ERROR clocks the reply slot out, counts, and places FRAME_ERROR with tag 0 (R162). -/
theorem exec_frameError (bs : List Byte) (s : State) :
    exec (.frameError bs) s =
      .next ({ s.clockOut bs.length with
        cmd := { (s.clockOut bs.length).cmd with frameErrors := countUp s.cmd.frameErrors } }.place 0
          (.refuse .frameError)) := rfl

/-- Settles O6: the decoder's check is the list of R162, and a frame that passes it is never read as a frame error; the
three writes of FRAME ERROR are to the command port alone, and none of them is to the cursor. -/
theorem frameErrorIsAnsweredAndCounted : Obligations.FrameErrorIsAnsweredAndCounted := by
  refine ⟨fun bs => (decodeFrame_eq_frameError_iff bs).trans (isFrameError_iff bs), fun s bs => ?_⟩
  rw [exec_frameError, countUp_eq, clockOut_cmd]
  rfl

end Sys2Proof.Proofs

/-! ## Proofs: one step

The front of the queue, the tick on an empty queue, that every command goes on, and what reset leaves. -/

namespace Sys2Proof.Proofs

open Sys2Proof Sys2Proof.Machine Sys2Proof.Laws

theorem step_of_empty {s : State} (h : s.pending = []) : step s = .next s.tick := by
  simp only [step, h]

theorem step_of_cons {s : State} {c : Instr} {rest : List Instr} (h : s.pending = c :: rest) :
    step s = exec c { s with pending := rest } := by
  simp only [step, h]

/-- Settles O1: the front of the queue is the command that runs. -/
theorem stepRunsTheFrontCommand : Obligations.StepRunsTheFrontCommand := fun _ _ _ => step_of_cons rfl

/-! ### The tick -/

theorem tickTimer_eq (t : Option Nat) : tickTimer t = t.map (· - 1) := by cases t <;> rfl

theorem expiring_iff (t : Option Nat) : expiring t = true ↔ t = some 1 := by simp [expiring]

theorem batchTimer_eq_some (b : Batch) (n : Nat) : b.timer = some n ↔ b = .window n := by
  cases b <;> simp [Batch.timer]

/-- Settles O2: each timer's tick and each expiry test, said as the statement says it. -/
theorem emptyQueueStepIsOneTick : Obligations.EmptyQueueStepIsOneTick := by
  intro s h due
  have batchTick : s.cat.batch.tick = match s.cat.batch with
      | .window ms => .window (ms - 1)
      | other => other := by cases s.cat.batch <;> rfl
  rw [step_of_empty h, State.tick, State.expiries, h, batchTick]
  simp only [Context.tick, tickTimer_eq, expiring_iff, batchTimer_eq_some, List.nil_append]
  rfl

/-! ### Every command goes on -/

/-- A command that chooses between two ways on goes on. -/
theorem next_of_ite {p : Prop} [Decidable p] {a b : Host.Outcome State Fault Refusal}
    (ha : ∃ t, a = .next t) (hb : ∃ t, b = .next t) : ∃ t, (if p then a else b) = .next t := by
  split <;> assumption

/-- Settles O3: a request goes on whatever its owner answers; a line, a message or a step of an operation goes on on
each of its branches. -/
theorem everyCommandAnswersANextState : Obligations.EveryCommandAnswersANextState := by
  intro c s
  cases c
  case openingEdge =>
    exact next_of_ite ⟨_, rfl⟩ (next_of_ite ⟨_, rfl⟩ (next_of_ite ⟨_, rfl⟩ ⟨_, rfl⟩))
  case closingEdge =>
    exact next_of_ite ⟨_, rfl⟩ (next_of_ite ⟨_, rfl⟩ (next_of_ite ⟨_, rfl⟩ ⟨_, rfl⟩))
  case wordSyncLost | row | batchApplicationBegin | batchWithdrawal | gatherTimerExpiry | forcedClose |
      commitBoundaryComplete | flushFirstStep | flushComplete | signatureStampStep | startupClearingEnd =>
    exact next_of_ite ⟨_, rfl⟩ ⟨_, rfl⟩
  case pauseLineRise => simp only [exec, execPauseLineRise]; split <;> exact ⟨_, rfl⟩
  case stripHeader =>
    simp only [exec, execStripHeader]
    refine next_of_ite ⟨_, rfl⟩ ?_
    split <;> exact ⟨_, rfl⟩
  case stripEnd =>
    simp only [exec, execStripEnd]
    refine next_of_ite ⟨_, rfl⟩ ?_
    split <;> exact ⟨_, rfl⟩
  case verdictSent => simp only [exec, execVerdictSent]; split <;> exact ⟨_, rfl⟩
  case batchWindowExpiry => simp only [exec, execBatchWindowExpiry]; split <;> exact ⟨_, rfl⟩
  case openingComplete => simp only [exec, execOpeningComplete]; split <;> exact ⟨_, rfl⟩
  case signatureEntryStep =>
    simp only [exec, execSignatureEntryStep]
    refine next_of_ite ?_ ⟨_, rfl⟩
    split <;> exact ⟨_, rfl⟩
  case rowReserve =>
    simp only [exec, execRowReserve]
    split
    · exact ⟨_, rfl⟩
    · exact next_of_ite ⟨_, rfl⟩ ⟨_, rfl⟩
  case cellOpeningComplete =>
    simp only [exec, execCellOpeningComplete]
    split
    · exact ⟨_, rfl⟩
    · split <;> exact ⟨_, rfl⟩
  case pixelPlace =>
    simp only [exec, execPixelPlace]
    split
    · exact ⟨_, rfl⟩
    · refine next_of_ite ?_ ⟨_, rfl⟩
      split <;> exact ⟨_, rfl⟩
  case rowAdvance =>
    simp only [exec, execRowAdvance]
    split
    · exact ⟨_, rfl⟩
    · exact next_of_ite (next_of_ite ⟨_, rfl⟩ ⟨_, rfl⟩) ⟨_, rfl⟩
  case preparationEnd => simp only [exec, execPreparationEnd]; split <;> exact ⟨_, rfl⟩
  case unitSent =>
    simp only [exec, execUnitSent]
    split
    · exact next_of_ite ⟨_, rfl⟩ ⟨_, rfl⟩
    · exact ⟨_, rfl⟩
  case trailerSent =>
    simp only [exec, execTrailerSent]
    split
    · exact next_of_ite ⟨_, rfl⟩ ⟨_, rfl⟩
    · exact ⟨_, rfl⟩
  case abortMarkerSent => simp only [exec, execAbortMarkerSent]; split <;> exact ⟨_, rfl⟩
  all_goals exact ⟨_, rfl⟩

/-! ### Reset -/

theorem reset_catalogueConsistent : State.reset.catalogueConsistent := by
  simp [State.catalogueConsistent, State.reset, Cat.reset, Table.wf]

theorem contextFree_consistent : Context.free.consistent := by
  simp [Context.consistent, Context.free, Summary.start]

theorem reset_exposureConsistent : State.reset.exposureConsistent := by
  have trailers (c : Ctx) : State.reset.trailersOf c = 0 := rfl
  have context (c : Ctx) : State.reset.ctx c = Context.free := by cases c <;> rfl
  refine ⟨fun c => ⟨context c ▸ contextFree_consistent, ?_⟩, ?_, ?_, ?_, ?_, ?_, ?_⟩
  · rw [trailers, context]; rfl
  all_goals simp [State.reset, Exc.reset, Context.free, Cat.reset, State.running, Cmd.reset]

theorem reset_slotsConsistent : State.reset.slotsConsistent := by
  simp [State.slotsConsistent, State.reset, Ctb.reset, Table.wf, Table.read, queuedSlots, PortState.slot?]

/-- Settles O55: the values by evaluation, the invariants one by one. -/
theorem resetMeetsTheInvariants : Obligations.ResetMeetsTheInvariants :=
  ⟨rfl, rfl, rfl, rfl, rfl, rfl, rfl, rfl, by decide, rfl, rfl, rfl, rfl, rfl, rfl, by decide, rfl, rfl, rfl, rfl, rfl, rfl,
    rfl, reset_catalogueConsistent, reset_exposureConsistent, reset_slotsConsistent, rfl⟩

end Sys2Proof.Proofs

/-! ## Proofs: how the cell table moves

Whatever a command does to the cell table is made of few kinds of move, and a rule for each move is a rule for every
operation made of them. -/

namespace Sys2Proof.Proofs

open Sys2Proof Sys2Proof.Machine Sys2Proof.Laws

/-! ### Reads of a keyed list -/

theorem read_map {α : Type} (t : Table α) (g : Nat → α → α) (n : Nat) :
    Table.read (t.map fun e => (e.1, g e.1 e.2)) n = (Table.read t n).map (g n) := by
  induction t with
  | nil => rfl
  | cons e t ih =>
    simp only [List.map_cons, Table.read]
    by_cases h : e.1 = n
    · simp [h]
    · simpa [h] using ih

theorem read_remove_ne {α : Type} (t : Table α) {n m : Nat} (h : m ≠ n) :
    Table.read (Table.remove t n) m = Table.read t m := by
  unfold Table.remove
  induction t with
  | nil => rfl
  | cons e t ih =>
    by_cases hn : e.1 = n
    · have hm : e.1 ≠ m := hn ▸ h.symm
      rw [List.filter_cons_of_neg (by simp [hn]), ih, Table.read, if_neg hm]
    · rw [List.filter_cons_of_pos (by simp [hn])]
      simp only [Table.read, ih]

theorem read_remove_self {α : Type} (t : Table α) (n : Nat) : Table.read (Table.remove t n) n = none := by
  induction t with
  | nil => rfl
  | cons e t ih =>
    by_cases hn : e.1 = n
    · simpa [Table.remove, hn] using ih
    · simpa [Table.remove, Table.read, hn] using ih

theorem read_eq_some_of_mem {α : Type} {t : Table α} (h : Table.wf t = true) {e : Nat × α} (he : e ∈ t) :
    Table.read t e.1 = some e.2 := by
  induction t with
  | nil => nomatch he
  | cons x t ih =>
    obtain ⟨below, tail⟩ := (table_wf_cons x t).1 h
    rcases List.mem_cons.1 he with rfl | hmem
    · simp [Table.read]
    · simp only [Table.read, if_neg (Nat.ne_of_lt (below e hmem)), ih tail hmem]

theorem mem_of_read_eq_some {α : Type} {t : Table α} {n : Nat} {a : α} (h : Table.read t n = some a) : (n, a) ∈ t := by
  induction t with
  | nil => nomatch h
  | cons x t ih =>
    simp only [Table.read] at h
    split at h
    · rename_i hx
      obtain rfl := Option.some.inj h
      exact hx ▸ List.mem_cons_self
    · exact List.mem_cons_of_mem _ (ih h)

theorem le_lowestFrom {α : Type} (t : Table α) (m : Nat) : m ≤ Table.lowestFrom m t := by
  induction t generalizing m with
  | nil => exact Nat.le_refl m
  | cons e t ih =>
    simp only [Table.lowestFrom]
    split
    · exact Nat.le_trans (Nat.le_succ m) (ih (m + 1))
    · exact Nat.le_refl m

/-- The search from below every listed number ends at the lowest that is not listed. -/
theorem read_lowestFrom {α : Type} (t : Table α) (m : Nat) (h : Table.wf t = true) (hm : ∀ e ∈ t, m ≤ e.1) :
    Table.read t (Table.lowestFrom m t) = none ∧ ∀ j, m ≤ j → j < Table.lowestFrom m t → Table.read t j ≠ none := by
  induction t generalizing m with
  | nil => exact ⟨rfl, fun j h1 h2 => absurd h2 (Nat.not_lt.2 h1)⟩
  | cons e t ih =>
    obtain ⟨below, tail⟩ := (table_wf_cons e t).1 h
    simp only [Table.lowestFrom, Table.read]
    split
    case isTrue he =>
      obtain ⟨unlisted, listed⟩ := ih (m + 1) tail fun x hx => he ▸ below x hx
      have past := le_lowestFrom t (m + 1)
      refine ⟨by rw [if_neg (by omega), unlisted], fun j h1 h2 => ?_⟩
      split
      · exact Option.some_ne_none _
      · exact listed j (by omega) h2
    case isFalse he =>
      have least := hm e List.mem_cons_self
      refine ⟨?_, fun j h1 h2 => absurd h2 (Nat.not_lt.2 h1)⟩
      refine read_eq_none_of_lt t m fun x hx => ?_
      have := below x hx
      omega

/-- The slot that an opening takes is FREE, and every lower one is not (R114). -/
theorem isLowestFree_iff {t : Ctb} (h : t.slots.wf = true) (n : Nat) : t.lowestFree = some n ↔ t.isLowestFree n := by
  obtain ⟨unlisted, listed⟩ := read_lowestFrom t.slots 0 h fun _ _ => Nat.zero_le _
  simp only [Ctb.lowestFree, Table.lowest, Config.slotCount, Ctb.isLowestFree]
  constructor
  · intro hn
    split at hn
    · obtain rfl := Option.some.inj hn
      exact ⟨‹_›, unlisted, fun j hj => listed j (Nat.zero_le j) hj⟩
    · nomatch hn
  · rintro ⟨bound, free, taken⟩
    have least : Table.lowestFrom 0 t.slots = n := by
      rcases Nat.lt_trichotomy (Table.lowestFrom 0 t.slots) n with lt | eq | gt
      · exact absurd unlisted (taken _ lt)
      · exact eq
      · exact absurd free (listed n (Nat.zero_le n) gt)
    rw [least, if_pos bound]

/-! ### The moves -/

/-- The state of a slot, none for a FREE one. -/
def slotState (t : Ctb) (n : Nat) : Option SlotState := (t.slots.read n).map fun e => e.state

/-- One move of the cell table in which no slot leaves the emission queue or the cell output port: records change within
their states, a cell opens in a FREE slot,
or an OPEN slot is queued, dropped, or dropped and given to another cell. -/
inductive CellMove : Ctb → Ctb → Prop
  | records (t t' : Ctb) (g : Nat → Slot → Slot) (state : ∀ n e, (g n e).state = e.state)
      (slots : t'.slots = t.slots.map fun e => (e.1, g e.1 e.2)) (touch : t.touch.Nodup → t'.touch.Perm t.touch)
      (queue : t'.queue = t.queue) (memory : t.memory.wf = true → t'.memory.wf = true) : CellMove t t'
  | opened (t : Ctb) (n : Nat) (e : Slot) (free : t.slots.wf = true → t.isLowestFree n) (state : e.state = .opened) :
      CellMove t { t with slots := t.slots.write n e, touch := t.touch ++ [n] }
  | queued (t t' : Ctb) (n : Nat) (g : Slot → Slot) (was : slotState t n = some .opened) (state : ∀ e, (g e).state = .queued)
      (slots : t'.slots = t.slots.change n g) (touch : t'.touch = removeTouch t.touch n)
      (queue : t'.queue = t.queue ++ [.slot n]) (memory : t'.memory = t.memory) : CellMove t t'
  | dropped (t : Ctb) (n : Nat) (was : slotState t n = some .opened) :
      CellMove t { t with slots := t.slots.remove n, touch := removeTouch t.touch n }
  | reused (t : Ctb) (n : Nat) (e : Slot) (was : slotState t n = some .opened) (state : e.state = .opened) :
      CellMove t { t with slots := (t.slots.remove n).write n e, touch := removeTouch t.touch n ++ [n] }

/-- Moves of the cell table one after another. -/
abbrev CellMoves := Relation.ReflTransGen CellMove

theorem cellMoves_of_eq {t t' : Ctb} (h : t' = t) : CellMoves t t' := h ▸ .refl

/-- Moves keep the canonical form of cell memory. -/
theorem cellMoves_memory {t t' : Ctb} (h : CellMoves t t') (wf : t.memory.wf = true) : t'.memory.wf = true := by
  induction h with
  | refl => exact wf
  | tail _ move ih =>
    cases move with
    | records _ _ _ _ _ _ memory => exact memory ih
    | opened => exact ih
    | queued _ _ _ _ _ _ _ _ memory => exact memory ▸ ih
    | dropped => exact ih
    | reused => exact ih

/-- Moves leave the trailers of the emission queue as they were. -/
theorem cellMoves_trailers {t t' : Ctb} (h : CellMoves t t') (c : Ctx) :
    t'.queue.count (.trailer c) = t.queue.count (.trailer c) := by
  induction h with
  | refl => rfl
  | tail _ move ih =>
    cases move with
    | records _ _ _ _ _ queue _ => rw [queue, ih]
    | opened => exact ih
    | queued _ _ _ _ _ _ _ queue _ => rw [queue, List.count_append, ih]; simp
    | dropped => exact ih
    | reused => exact ih

/-! ### The invariant of the cell table, for a queue of which some slots have been taken out -/

/-- The slots, the touch order and the queue agree, where the slots of `out` stand before those of the queue, and
`current` is the slot of the port's item. -/
structure TableOk (t : Ctb) (out : List Nat) (current : Option Nat) : Prop where
  wf : t.slots.wf = true
  bound : ∀ e ∈ t.slots, e.1 < 2048
  touch_nodup : t.touch.Nodup
  queue_nodup : (out ++ queuedSlots t.queue).Nodup
  touch_iff : ∀ n, n ∈ t.touch ↔ slotState t n = some .opened
  queue_iff : ∀ n, n ∈ out ++ queuedSlots t.queue ↔ slotState t n = some .queued
  current_iff : ∀ n, current = some n ↔ slotState t n = some .emitting

theorem slotState_eq_some {t : Ctb} {n : Nat} {st : SlotState} :
    slotState t n = some st ↔ ∃ e, t.slots.read n = some e ∧ e.state = st := Option.map_eq_some_iff

theorem mem_queuedSlots {q : List QueueItem} {n : Nat} : n ∈ queuedSlots q ↔ .slot n ∈ q := by
  induction q with
  | nil => simp [queuedSlots]
  | cons i q ih => cases i <;> simp_all [queuedSlots]

theorem queuedSlots_append (q r : List QueueItem) : queuedSlots (q ++ r) = queuedSlots q ++ queuedSlots r :=
  List.filterMap_append

theorem slotsConsistent_iff (s : State) :
    s.slotsConsistent ↔ (s.part = .starting ↔ s.cop.state = .reset) ∧ TableOk s.ctb [] s.cop.state.slot? := by
  simp only [State.slotsConsistent, ← slotState_eq_some, ← mem_queuedSlots]
  constructor
  · rintro ⟨wf, bound, part, touch, queue, opened, queued, emitting⟩
    exact ⟨part, wf, bound, touch, queue, opened, queued, emitting⟩
  · rintro ⟨part, wf, bound, touch, queue, opened, queued, emitting⟩
    exact ⟨wf, bound, part, touch, queue, opened, queued, emitting⟩

section Moves

variable {t t' : Ctb} {out : List Nat} {current : Option Nat}

theorem mem_removeTouch {l : List Nat} {n m : Nat} : m ∈ removeTouch l n ↔ m ∈ l ∧ m ≠ n := by
  simp [removeTouch]

theorem removeTouch_nodup {l : List Nat} (n : Nat) (h : l.Nodup) : (removeTouch l n).Nodup := h.filter _

theorem slotState_records (g : Nat → Slot → Slot) (state : ∀ n e, (g n e).state = e.state)
    (slots : t'.slots = t.slots.map fun e => (e.1, g e.1 e.2)) (n : Nat) : slotState t' n = slotState t n := by
  rw [slotState, slotState, slots, read_map, Option.map_map]
  exact congrArg (Option.map · _) (funext fun e => state n e)

theorem slotState_write (wf : t.slots.wf = true) (n m : Nat) (e : Slot) (slots : t'.slots = t.slots.write n e) :
    slotState t' m = if m = n then some e.state else slotState t m := by
  rw [slotState, slots, read_write _ _ _ _ wf]
  split <;> rfl

theorem slotState_change (n m : Nat) (g : Slot → Slot) (slots : t'.slots = t.slots.change n g) :
    slotState t' m = if m = n then (t.slots.read n).map fun e => (g e).state else slotState t m := by
  rw [slotState, slots, read_change]
  split
  · rename_i h
    rw [h, Option.map_map]
    rfl
  · rfl

theorem slotState_remove (n m : Nat) (slots : t'.slots = t.slots.remove n) :
    slotState t' m = if m = n then none else slotState t m := by
  rw [slotState, slots]
  split
  · rename_i h
    rw [h, read_remove_self]
    rfl
  · rename_i h
    rw [read_remove_ne _ h]
    rfl

/-- A slot whose state becomes QUEUED, of one that was OPEN. -/
theorem slotState_queued {n : Nat} {g : Slot → Slot} (was : slotState t n = some .opened) (state : ∀ e, (g e).state = .queued)
    (slots : t'.slots = t.slots.change n g) (m : Nat) :
    slotState t' m = if m = n then some .queued else slotState t m := by
  obtain ⟨e, he, -⟩ := slotState_eq_some.1 was
  rw [slotState_change n m g slots, he]
  simp only [Option.map_some, state]

/-- Every move keeps the agreement. -/
theorem cellMove_ok (move : CellMove t t') (ok : TableOk t out current) : TableOk t' out current := by
  cases move with
  | records _ g state slots touch queue memory =>
    have same := slotState_records g state slots
    have touch := touch ok.touch_nodup
    refine ⟨?_, ?_, touch.nodup_iff.2 ok.touch_nodup, queue ▸ ok.queue_nodup, fun n => ?_, fun n => ?_, fun n => ?_⟩
    · rw [slots]
      exact table_wf_map t.slots (fun e => g e.1 e.2) ok.wf
    · rw [slots]
      simp only [List.mem_map]
      rintro _ ⟨e, he, rfl⟩
      exact ok.bound e he
    · rw [touch.mem_iff, same, ok.touch_iff]
    · rw [queue, same, ok.queue_iff]
    · rw [same, ok.current_iff]
  | opened n e free state =>
    obtain ⟨bound, unlisted, -⟩ := free ok.wf
    have was : slotState t n = none := by rw [slotState, unlisted]; rfl
    have now := fun m => slotState_write (t' := { t with slots := t.slots.write n e, touch := t.touch ++ [n] }) ok.wf n m e rfl
    have absent : n ∉ t.touch := by rw [ok.touch_iff, was]; simp
    refine ⟨table_wf_write _ _ _ ok.wf, fun x hx => ?_, ?_, ok.queue_nodup, fun m => ?_, fun m => ?_, fun m => ?_⟩
    · rcases mem_fst_write _ _ _ _ hx with h | h
      · exact h ▸ bound
      · exact ok.bound x h
    · exact List.nodup_append.2 ⟨ok.touch_nodup, List.nodup_singleton n, fun a ha b hb => by
        rintro rfl
        exact absent (List.mem_singleton.1 hb ▸ ha)⟩
    · rw [now, List.mem_append, ok.touch_iff, state, List.mem_singleton]
      split <;> simp_all
    · rw [now, ok.queue_iff, state]
      split <;> simp_all
    · rw [now, ok.current_iff, state]
      split <;> simp_all
  | queued _ n g was state slots touch queue memory =>
    have now := slotState_queued was state slots
    have unqueued : n ∉ out ++ queuedSlots t.queue := by rw [ok.queue_iff, was]; simp
    have items : out ++ queuedSlots t'.queue = (out ++ queuedSlots t.queue) ++ [n] := by
      rw [queue, queuedSlots_append, List.append_assoc]
      rfl
    refine ⟨?_, ?_, ?_, ?_, fun m => ?_, fun m => ?_, fun m => ?_⟩
    · rw [slots]
      exact table_wf_change _ _ _ ok.wf
    · rw [slots]
      simp only [Table.change, List.mem_map]
      rintro _ ⟨e, he, rfl⟩
      exact ok.bound e he
    · exact touch ▸ removeTouch_nodup n ok.touch_nodup
    · rw [items]
      exact List.nodup_append.2 ⟨ok.queue_nodup, List.nodup_singleton n, fun a ha b hb => by
        rintro rfl
        exact unqueued (List.mem_singleton.1 hb ▸ ha)⟩
    · rw [now, touch, mem_removeTouch, ok.touch_iff]
      split <;> simp_all
    · rw [now, items, List.mem_append, ok.queue_iff, List.mem_singleton]
      split <;> simp_all
    · rw [now, ok.current_iff]
      split <;> simp_all
  | dropped n was =>
    have now := fun m => slotState_remove (t := t)
      (t' := { t with slots := t.slots.remove n, touch := removeTouch t.touch n }) n m rfl
    refine ⟨table_wf_remove _ _ ok.wf, fun e he => ok.bound e (List.mem_filter.1 he).1,
      removeTouch_nodup n ok.touch_nodup, ok.queue_nodup, fun m => ?_, fun m => ?_, fun m => ?_⟩
    · rw [now, mem_removeTouch, ok.touch_iff]
      split <;> simp_all
    · rw [now, ok.queue_iff]
      split <;> simp_all
    · rw [now, ok.current_iff]
      split <;> simp_all

  | reused n e was state =>
    have now (m : Nat) := slotState_write
      (t := { t with slots := t.slots.remove n })
      (t' := { t with slots := (t.slots.remove n).write n e, touch := removeTouch t.touch n ++ [n] })
      (table_wf_remove _ n ok.wf) n m e rfl
    have before (m : Nat) := slotState_remove (t := t) (t' := { t with slots := t.slots.remove n }) n m rfl
    have same (m : Nat) : slotState { t with
        slots := (t.slots.remove n).write n e, touch := removeTouch t.touch n ++ [n] } m = slotState t m := by
      rw [now, before]
      split
      · rename_i h
        rw [h, was, state]
      · rfl
    obtain ⟨e', he', -⟩ := slotState_eq_some.1 was
    have listed := ok.bound _ (mem_of_read_eq_some he')
    have present : n ∈ t.touch := (ok.touch_iff n).2 was
    refine ⟨table_wf_write _ _ _ (table_wf_remove _ _ ok.wf), fun x hx => ?_, ?_, ok.queue_nodup, fun m => ?_, fun m => ?_,
      fun m => ?_⟩
    · rcases mem_fst_write _ _ _ _ hx with h | h
      · exact h ▸ listed
      · exact ok.bound x (List.mem_filter.1 h).1
    · exact List.nodup_append.2 ⟨removeTouch_nodup n ok.touch_nodup, List.nodup_singleton n, fun a ha b hb => by
        rintro rfl
        exact (mem_removeTouch.1 ha).2 (List.mem_singleton.1 hb)⟩
    · rw [same, List.mem_append, mem_removeTouch, List.mem_singleton, ← ok.touch_iff]
      refine ⟨?_, fun hm => ?_⟩
      · rintro (⟨hm, -⟩ | rfl)
        · exact hm
        · exact present
      · by_cases h : m = n
        · exact .inr h
        · exact .inl ⟨hm, h⟩
    · rw [same, ok.queue_iff]
    · rw [same, ok.current_iff]

theorem cellMoves_ok (h : CellMoves t t') (ok : TableOk t out current) : TableOk t' out current := by
  induction h with
  | refl => exact ok
  | tail _ move ih => exact cellMove_ok move ih

/-- A slot of the queue, taken out before, is freed. -/
theorem tableOk_freed {n : Nat} (ok : TableOk t (n :: out) current) :
    TableOk { t with slots := t.slots.remove n } out current := by
  have now := fun m => slotState_remove (t := t) (t' := { t with slots := t.slots.remove n }) n m rfl
  have was : slotState t n = some .queued := (ok.queue_iff n).1 (by simp)
  obtain ⟨once, rest⟩ := List.nodup_cons.1 ok.queue_nodup
  refine ⟨table_wf_remove _ _ ok.wf, fun e he => ok.bound e (List.mem_filter.1 he).1, ok.touch_nodup, rest,
    fun m => ?_, fun m => ?_, fun m => ?_⟩
  · rw [now, ok.touch_iff]
    split <;> simp_all
  · have item := ok.queue_iff m
    rw [List.cons_append, List.mem_cons] at item
    rw [now]
    split
    · rename_i h
      exact ⟨fun hm => absurd (h ▸ hm) once, fun hm => nomatch hm⟩
    · rename_i h
      exact ⟨fun hm => item.1 (.inr hm), fun hm => (item.2 hm).resolve_left h⟩
  · rw [now, ok.current_iff]
    split <;> simp_all

/-- The slot of the port's item is freed, and the port has none. -/
theorem tableOk_sent {n : Nat} (ok : TableOk t out (some n)) : TableOk { t with slots := t.slots.remove n } out none := by
  have now := fun m => slotState_remove (t := t) (t' := { t with slots := t.slots.remove n }) n m rfl
  have was : slotState t n = some .emitting := (ok.current_iff n).1 rfl
  refine ⟨table_wf_remove _ _ ok.wf, fun e he => ok.bound e (List.mem_filter.1 he).1, ok.touch_nodup, ok.queue_nodup,
    fun m => ?_, fun m => ?_, fun m => ?_⟩
  · rw [now, ok.touch_iff]
    split <;> simp_all
  · rw [now, ok.queue_iff]
    split <;> simp_all
  · have item := ok.current_iff m
    rw [now]
    split
    · simp
    · rename_i h
      exact ⟨by simp, fun hm => absurd (Option.some.inj (item.2 hm)).symm h⟩

/-- The head of the queue becomes the port's item. -/
theorem tableOk_taken {n : Nat} {rest : List QueueItem} (ok : TableOk t [] none) (head : t.queue = .slot n :: rest) :
    TableOk { t with queue := rest, slots := t.slots.change n fun e => { e with state := .emitting } } [] (some n) := by
  have now := fun m => slotState_change (t := t)
    (t' := { t with queue := rest, slots := t.slots.change n fun e => { e with state := .emitting } }) n m
    (fun e => { e with state := .emitting }) rfl
  have items : queuedSlots t.queue = n :: queuedSlots rest := by rw [head]; rfl
  have was : slotState t n = some .queued := (ok.queue_iff n).1 (by simp [items])
  obtain ⟨e, he, -⟩ := slotState_eq_some.1 was
  have nodup := ok.queue_nodup
  rw [List.nil_append, items] at nodup
  obtain ⟨once, nodup⟩ := List.nodup_cons.1 nodup
  refine ⟨table_wf_change t.slots n (fun e => { e with state := .emitting }) ok.wf, ?_, ok.touch_nodup, nodup,
    fun m => ?_, fun m => ?_, fun m => ?_⟩
  · simp only [Table.change, List.mem_map]
    rintro _ ⟨e, he, rfl⟩
    exact ok.bound e he
  · rw [now, he, ok.touch_iff]
    split <;> simp_all
  · have item := ok.queue_iff m
    rw [List.nil_append, items, List.mem_cons] at item
    rw [now, he]
    split
    · rename_i h
      exact ⟨fun hm => absurd (h ▸ hm) once, fun hm => nomatch hm⟩
    · rename_i h
      exact ⟨fun hm => item.1 (.inr hm), fun hm => (item.2 hm).resolve_left h⟩
  · have item := ok.current_iff m
    rw [now, he]
    split
    · rename_i h
      simp [h]
    · rename_i h
      exact ⟨fun hm => absurd (Option.some.inj hm).symm h, fun hm => nomatch item.2 hm⟩

end Moves

end Sys2Proof.Proofs

/-! ## Proofs: the operations of the cell table as moves -/

namespace Sys2Proof.Proofs

open Sys2Proof Sys2Proof.Machine Sys2Proof.Laws

section CellOperations

variable (s : State)

/-- One record changes within its state. -/
theorem cellMoves_change {t t' : Ctb} (n : Nat) (f : Slot → Slot) (state : ∀ e, (f e).state = e.state)
    (slots : t'.slots = t.slots.change n f) (touch : t'.touch = t.touch) (queue : t'.queue = t.queue)
    (memory : t.memory.wf = true → t'.memory.wf = true) : CellMoves t t' :=
  .single (.records t t' (fun m e => if m = n then f e else e)
    (fun m e => by split; exacts [state e, rfl]) slots (fun _ => touch ▸ .refl _) queue memory)

/-- Every record changes within its state. -/
theorem cellMoves_mapSlots {t t' : Ctb} (f : Slot → Slot) (state : ∀ e, (f e).state = e.state)
    (slots : t'.slots = t.mapSlots f) (touch : t.touch.Nodup → t'.touch.Perm t.touch) (queue : t'.queue = t.queue)
    (memory : t'.memory = t.memory) : CellMoves t t' :=
  .single (.records t t' (fun _ => f) (fun _ => state) slots touch queue (memory ▸ id))

/-- A fold of operations whose every step moves the cell table moves it. -/
theorem foldl_moves {α : Type} (f : State → α → State) (h : ∀ s a, CellMoves s.ctb (f s a).ctb) (l : List α) (s : State) :
    CellMoves s.ctb (l.foldl f s).ctb := by
  induction l generalizing s with
  | nil => exact .refl
  | cons a l ih => exact (h s a).trans (ih (f s a))

theorem changeSlot_moves (n : Nat) (f : Slot → Slot) (state : ∀ e, (f e).state = e.state) :
    CellMoves s.ctb (s.changeSlot n f).ctb :=
  cellMoves_change n f state rfl rfl rfl id

theorem matchWatch_slots (c : Ctx) (n : Nat) (h : FirstHit) (w : Fin 8) :
    (s.matchWatch c n h w).ctb = { s.ctb with
      slots := s.ctb.slots.change n fun t => { t with watchSet := t.watchSet ||| BitVec.twoPow 8 w.val } } := by
  simp only [State.matchWatch]
  split <;> rfl

theorem matchWatch_moves (c : Ctx) (n : Nat) (h : FirstHit) (w : Fin 8) : CellMoves s.ctb (s.matchWatch c n h w).ctb := by
  rw [matchWatch_slots]
  exact cellMoves_change n (fun t => { t with watchSet := t.watchSet ||| BitVec.twoPow 8 w.val }) (fun _ => rfl) rfl rfl
    rfl id

theorem report_moves (test : WatchSetting → Bool) (c : Ctx) (n : Nat) (h : FirstHit) :
    CellMoves s.ctb (s.report test c n h).ctb := by
  refine foldl_moves _ (fun s w => ?_) _ s
  split
  · exact matchWatch_moves s c n h w
  · exact .refl

/-- An OPEN slot is queued (R120). -/
theorem queueSlot_moves (n : Nat) (k : Completeness) (was : slotState s.ctb n = some .opened) :
    CellMoves s.ctb (s.queueSlot n k).ctb := by
  simp only [State.queueSlot]
  split
  · exact .refl
  · rename_i t ht
    refine .trans (.single (.queued s.ctb _ n
      (fun t => { t with state := .queued, completeness := some k, pinned := false }) was (fun _ => rfl) ?_ ?_ ?_ ?_))
      (report_moves _ _ _ _ _)
    all_goals cases t.ctx <;> rfl

theorem queueNext_moves (n : Nat) (k : Completeness) (was : slotState s.ctb n = some .opened) :
    CellMoves s.ctb (s.queueNext n k).ctb := by
  have beside : s.betweenSlots.ctb = s.ctb := by simp
  rw [State.queueNext, ← beside]
  exact queueSlot_moves _ n k (beside ▸ was)

theorem dropSlot_moves (n : Nat) (was : slotState s.ctb n = some .opened) : CellMoves s.ctb (s.dropSlot n).ctb :=
  .single (.dropped s.ctb n was)

theorem checkSlot_moves (n : Nat) : CellMoves s.ctb (s.checkSlot n).ctb := by
  simp only [State.checkSlot]
  split
  · exact .refl
  · rename_i t ht
    split
    · rename_i found
      have was : slotState s.ctb n = some .opened := slotState_eq_some.2 ⟨t, ht, found.1⟩
      split
      · exact dropSlot_moves s n was
      · exact queueNext_moves s n .complete was
    · exact .refl

theorem checkSlots_moves (which : Slot → Bool) : CellMoves s.ctb (s.checkSlots which).ctb :=
  foldl_moves _ checkSlot_moves _ s

theorem closeSlot_moves (n : Nat) (was : slotState s.ctb n = some .opened) : CellMoves s.ctb (s.closeSlot n).ctb := by
  simp only [State.closeSlot]
  split
  · exact dropSlot_moves s n was
  · exact queueNext_moves s n .partly was

/-- What no match changes, a report does not change. -/
theorem report_keeps {β : Type} (get : State → β) (c : Ctx) (n : Nat) (h : FirstHit)
    (keeps : ∀ s w, get (s.matchWatch c n h w) = get s) (test : WatchSetting → Bool) :
    get (s.report test c n h) = get s := by
  unfold State.report
  refine foldl_keeps get _ (fun s w => ?_) _ s
  split
  · exact keeps s w
  · rfl

theorem matchWatch_slotState (c : Ctx) (n m : Nat) (h : FirstHit) (w : Fin 8) :
    slotState (s.matchWatch c n h w).ctb m = slotState s.ctb m := by
  rw [matchWatch_slots, slotState, read_change]
  split
  · rw [Option.map_map]
    rfl
  · rfl

/-- The queueing of one slot leaves the state of every other. -/
theorem queueSlot_slotState_ne {n m : Nat} (k : Completeness) (h : m ≠ n) :
    slotState (s.queueSlot n k).ctb m = slotState s.ctb m := by
  simp only [State.queueSlot]
  split
  · rfl
  · rename_i t ht
    rw [report_keeps _ (fun s => slotState s.ctb m) _ _ _ fun s w => matchWatch_slotState s _ _ _ _ _]
    rw [slotState_change (t := s.ctb) n m (fun t => { t with state := .queued, completeness := some k, pinned := false })
      (by cases t.ctx <;> rfl), if_neg h]

/-- A forced close of one slot leaves the state of every other. -/
theorem closeSlot_slotState_ne {n m : Nat} (h : m ≠ n) : slotState (s.closeSlot n).ctb m = slotState s.ctb m := by
  simp only [State.closeSlot]
  split
  · rw [slotState_remove (t := s.ctb) n m rfl, if_neg h]
  · have beside : s.betweenSlots.ctb = s.ctb := by simp
    rw [State.queueNext, queueSlot_slotState_ne _ _ h, beside]

/-- Different OPEN slots are closed one after another. -/
theorem closeSlots_moves (ns : List Nat) (s : State) (nodup : ns.Nodup) (opened : ∀ n ∈ ns, slotState s.ctb n = some .opened) :
    CellMoves s.ctb (ns.foldl State.closeSlot s).ctb := by
  induction ns generalizing s with
  | nil => exact .refl
  | cons n ns ih =>
    obtain ⟨once, nodup⟩ := List.nodup_cons.1 nodup
    refine (closeSlot_moves s n (opened n List.mem_cons_self)).trans (ih _ nodup fun m hm => ?_)
    rw [closeSlot_slotState_ne s (fun h : m = n => once (h ▸ hm)), opened m (List.mem_cons_of_mem n hm)]

theorem forcedClose_moves (c : Ctx) (nodup : s.ctb.touch.Nodup) : CellMoves s.ctb (s.forcedClose c).ctb := by
  refine closeSlots_moves _ s (nodup.filter _) fun n hn => ?_
  obtain ⟨e, he, test⟩ := (Option.any_eq_true _ _).1 (List.mem_filter.1 hn).2
  simp only [Bool.and_eq_true, beq_iff_eq] at test
  exact slotState_eq_some.2 ⟨e, he, test.1⟩

/-- A slot that a spill chooses is OPEN. -/
theorem victim_opened {n : Nat} (h : s.victim = some n) : slotState s.ctb n = some .opened := by
  have opened {c : Ctx} (hc : s.ctb.candidate c = some n) : slotState s.ctb n = some .opened := by
    have test := List.find?_some hc
    simp only [Ctb.slotIs, Option.any_eq_true, Slot.isCandidate, Bool.and_eq_true, beq_iff_eq] at test
    obtain ⟨e, he, ⟨⟨hopen, -⟩, -⟩, -⟩ := test
    exact slotState_eq_some.2 ⟨e, he, hopen⟩
  rw [State.victim] at h
  cases elder : s.ctb.candidate s.exc.elder with
  | some k => exact opened (c := s.exc.elder) (by simpa [elder] using h)
  | none => exact opened (c := otherCtx s.exc.elder) (by simpa [elder] using h)

theorem spill_moves (k : Nat) : CellMoves s.ctb (State.spill k s).ctb := by
  induction k generalizing s with
  | zero => exact .refl
  | succ k ih =>
    simp only [State.spill]
    split
    · exact .refl
    · rename_i n hn
      exact (queueSlot_moves s n .forced (victim_opened s hn)).trans
        (ih (((s.queueSlot n .forced).raise .spill).changeCommit fun m => { m with victims := m.victims ++ [n] }))

theorem openCell_moves (c : Ctx) (cell : CellIndex) (n : Nat) (free : s.ctb.lowestFree = some n) :
    CellMoves s.ctb (s.openCell c cell n).ctb :=
  .single (.opened s.ctb n (s.newSlot c cell) (fun wf => (isLowestFree_iff wf n).1 free) rfl)

/-! ### The waiting row (R123, R133) -/

theorem giveFree_moves (k : Commit) (cell : CellIndex) (rest : List CellIndex) (n : Nat)
    (free : s.ctb.lowestFree = some n) : CellMoves s.ctb (s.giveFree k cell rest n).ctb := by
  simp only [State.giveFree]
  split
  · exact openCell_moves s k.ctx cell n free
  · exact .refl

theorem droppable_opened {n : Nat} (h : s.ctb.droppable = some n) : slotState s.ctb n = some .opened := by
  have test := List.find?_some h
  simp only [Ctb.slotIs, Option.any_eq_true, Bool.and_eq_true, beq_iff_eq] at test
  obtain ⟨e, he, hopen, -⟩ := test
  exact slotState_eq_some.2 ⟨e, he, hopen⟩

/-- Under a FLUSH a waiting row is given a slot that was dropped for it (R133). -/
theorem reuse_moves (k : Commit) (cell : CellIndex) (rest : List CellIndex) (n : Nat)
    (was : slotState s.ctb n = some .opened) : CellMoves s.ctb ((s.dropSlot n).giveFree k cell rest n).ctb := by
  simp only [State.giveFree]
  split
  · exact .single (.reused s.ctb n ((s.dropSlot n).newSlot k.ctx cell) was rfl)
  · exact dropSlot_moves s n was

theorem giveMore_moves (k : Commit) (cell : CellIndex) (rest : List CellIndex) :
    CellMoves s.ctb (s.giveMore k cell rest).ctb := by
  simp only [State.giveMore]
  split
  · split
    · rename_i n hn
      exact reuse_moves s k cell rest n (droppable_opened s hn)
    · exact .refl
  · split
    · exact spill_moves s _
    · exact .refl

theorem attempt_moves : CellMoves s.ctb s.attempt.ctb := by
  simp only [State.attempt]
  split
  · exact .refl
  · rename_i k hk
    split
    · split
      · split <;> exact .refl
      · split
        · rename_i n hn
          exact giveFree_moves s k _ _ n hn
        · exact giveMore_moves s k _ _
    · exact .refl

/-- A slot is freed, and then the waiting row has an attempt (R132). -/
theorem freeSlot_moves (n : Nat) : CellMoves { s.ctb with slots := s.ctb.slots.remove n } (s.freeSlot n).ctb :=
  attempt_moves ({ s with ctb.slots := s.ctb.slots.remove n }.changeCommit fun k =>
    { k with victims := k.victims.filter fun i => i != n })

/-! ### Row reservation (R102, R122) -/

theorem pin_moves (n : Nat) : CellMoves s.ctb (s.pin n).ctb :=
  changeSlot_moves s n (fun t => { t with pinned := true }) fun _ => rfl

theorem reserved_moves : CellMoves s.ctb s.reserved.ctb := by
  simp only [State.reserved]
  split
  · exact .refl
  · split
    · exact .refl
    · exact attempt_moves (s.changeCommit fun m => { m with phase := .wait, victims := [] })

theorem ask_moves (cells : List CellIndex) : CellMoves s.ctb (State.ask cells s).ctb := by
  induction cells generalizing s with
  | nil => exact reserved_moves s
  | cons cell rest ih =>
    simp only [State.ask]
    split
    · exact .refl
    · rename_i k hk
      split
      · rename_i n hn
        exact (pin_moves s n).trans (ih (s.pin n))
      · split
        · rename_i n hn
          exact openCell_moves s k.ctx cell n hn
        · exact ih (s.changeCommit fun m => { m with missing := m.missing ++ [cell] })

/-- Only cell memory changes. -/
theorem cellMoves_memoryOnly {t : Ctb} (m : Memory) (memory : t.memory.wf = true → m.wf = true) :
    CellMoves t { t with memory := m } :=
  .single (.records t _ (fun _ e => e) (fun _ _ => rfl) (by simp) (fun _ => .refl _) rfl memory)

theorem openingDone_moves (k : Commit) (n : Nat) : CellMoves s.ctb (s.openingDone k n).ctb := by
  have cleared : CellMoves s.ctb { s.ctb with memory := Memory.clearSlot s.ctb.memory n } :=
    cellMoves_memoryOnly _ (memory_wf_clearSlot _ n)
  simp only [State.openingDone]
  split
  · exact cleared.trans (ask_moves
      ({ s with ctb.memory := Memory.clearSlot s.ctb.memory n }.changeCommit fun m => { m with opening := none }) k.toAsk)
  · exact cleared.trans (attempt_moves
      ({ s with ctb.memory := Memory.clearSlot s.ctb.memory n }.changeCommit fun m => { m with opening := none }))

/-! ### The pixel (R94 to R101, R107) -/

theorem memoryError_moves (n position : Nat) (e : MemoryError) : CellMoves s.ctb (s.memoryError n position e).ctb := by
  cases e
  case single => exact .single (.records _ _ (fun _ e => e) (fun _ _ => rfl) (by simp [State.memoryError])
    (fun _ => .refl _) rfl id)
  case uncorrectable =>
    have cleared := cellMoves_memoryOnly (t := s.ctb) _
      (memory_wf_write _ (skyAddress n position) { sum := 0, weight := 0, damaged := true })
    simp only [State.memoryError]
    split
    · exact cleared
    · exact cleared.trans (changeSlot_moves { s with ctb.memory := _ } n
        (fun t => { t with damaged := t.damaged + 1, damagedFlag := true }) fun _ => rfl)

theorem memoryErrors_moves (n : Nat) (found : List (Nat × MemoryError)) : CellMoves s.ctb (s.memoryErrors n found).ctb :=
  foldl_moves (fun s (e : Nat × MemoryError) => s.memoryError n e.1 e.2)
    (fun s e => memoryError_moves s n e.1 e.2) found s

theorem prepare_moves (n : Nat) (found : List (Nat × MemoryError)) : CellMoves s.ctb (s.prepare n found).ctb := by
  have filled : CellMoves s.ctb ((s.memoryErrors n found).changeSlot n fun t => t.withSuspects s.cat).ctb :=
    (memoryErrors_moves s n found).trans (changeSlot_moves _ n _ fun _ => rfl)
  simp only [State.prepare, memoryErrors_frame]
  split <;> exact filled

theorem placeDefect_moves (k : Commit) (slot : Option Nat) : CellMoves s.ctb (s.placeDefect k slot).ctb := by
  simp only [State.placeDefect]
  split
  · exact changeSlot_moves (s.count _ _) _ _ fun _ => rfl
  · exact .refl

theorem placeSaturated_moves (k : Commit) (xy : Option (Nat × Nat)) (slot : Option Nat) :
    CellMoves s.ctb (s.placeSaturated k xy slot).ctb := by
  simp only [State.placeSaturated]
  split
  · exact (changeSlot_moves (s.count _ _) _ (fun t => { t with saturated := countUp t.saturated }) fun _ => rfl).trans
      (report_moves _ _ _ _ _)
  · exact .refl

theorem placeCrowded_moves (k : Commit) (n : Nat) : CellMoves s.ctb (s.placeCrowded k n).ctb :=
  changeSlot_moves (s.count _ _) n (fun t => { t with crowded := countUp t.crowded }) fun _ => rfl

theorem placeAccepted_moves (k : Commit) (v : Version) (x : Int) (xy : Nat × Nat) (n : Nat) :
    CellMoves s.ctb (s.placeAccepted k v x xy n).ctb := by
  simp only [State.placeAccepted]
  refine .trans ?_ (report_moves _ _ _ _ _)
  exact cellMoves_change n (fun t => t.acceptPixel k.seg) (fun _ => rfl) rfl rfl rfl (memory_wf_write _ _ _)

theorem placeOnGrid_moves (k : Commit) (v : Version) (xy : Nat × Nat) (n : Nat) (found : Option MemoryError) :
    CellMoves s.ctb (s.placeOnGrid k v xy n found).ctb := by
  have accumulated (u : State) (x : Int) : CellMoves u.ctb (if
      Config.weightMax < (Memory.read u.ctb.memory (skyAddress n (positionOf xy))).weight + v.weight then
      u.placeCrowded k n else u.placeAccepted k v x xy n).ctb := by
    split
    · exact placeCrowded_moves u k n
    · exact placeAccepted_moves u k v x xy n
  simp only [State.placeOnGrid, State.accumulate]
  split
  · cases found with
    | none => exact accumulated s _
    | some e => exact (memoryError_moves s n _ e).trans (accumulated _ _)
  · exact placeCrowded_moves s k n

theorem placePixel_moves (k : Commit) (v : Version) (found : Option MemoryError) :
    CellMoves s.ctb (s.placePixel k v found).ctb := by
  simp only [State.placePixel]
  split
  · exact placeDefect_moves s k _
  · split
    · exact placeSaturated_moves s k _ _
    · split
      · exact placeOnGrid_moves s k v _ _ found
      · exact .refl
      · exact .refl

/-! ### After each row (R105), and the withdrawal (R45) -/

theorem touchBack_perm {touch : List Nat} (n : Nat) (h : touch.Nodup) : (touchBack touch n).Perm touch := by
  unfold touchBack
  split
  · rename_i hn
    have removed : removeTouch touch n = touch.erase n := (h.erase_eq_filter n).symm
    rw [removed]
    exact (List.perm_append_singleton n _).trans (List.perm_cons_erase hn).symm
  · exact .refl _

theorem touchBacks_perm (ns touch : List Nat) (h : touch.Nodup) : (ns.foldl touchBack touch).Perm touch := by
  induction ns generalizing touch with
  | nil => exact .refl _
  | cons n ns ih =>
    have first := touchBack_perm n h
    exact (ih _ (first.nodup_iff.2 h)).trans first

theorem finishRow_state (e : Slot) (k : Commit) : (e.finishRow k).state = e.state := by
  unfold Slot.finishRow
  split <;> rfl

theorem withdraw_state (e : Slot) (segs : List Nat) : (e.withdraw segs).state = e.state := by
  unfold Slot.withdraw
  split <;> rfl

theorem advanceCells_moves (k : Commit) : CellMoves s.ctb (s.advanceCells k).ctb := by
  have finished : CellMoves s.ctb { s.ctb with slots := s.ctb.mapSlots fun t => t.finishRow k } :=
    cellMoves_mapSlots (fun t => t.finishRow k) (finishRow_state · k) rfl (fun _ => .refl _) rfl rfl
  have touched (u : State) : CellMoves u.ctb (u.touchRow k).ctb :=
    cellMoves_mapSlots id (fun _ => rfl) (by simp [State.touchRow, Ctb.mapSlots]) (touchBacks_perm _ _) rfl rfl
  have unpinned (u : State) : CellMoves u.ctb u.unpin.ctb :=
    cellMoves_mapSlots (fun t => { t with pinned := false }) (fun _ => rfl) rfl (fun _ => .refl _) rfl rfl
  exact finished.trans ((checkSlots_moves { s with ctb := _ } _).trans ((touched _).trans (unpinned _)))

theorem withdrawMembers_moves (segs : List Nat) : CellMoves s.ctb (s.withdrawMembers segs).ctb := by
  have withdrawn : CellMoves s.ctb { s.ctb with slots := s.ctb.mapSlots fun t => t.withdraw segs } :=
    cellMoves_mapSlots (fun t => t.withdraw segs) (withdraw_state · segs) rfl (fun _ => .refl _) rfl rfl
  simp only [State.withdrawMembers, naturalEnd_frame]
  exact withdrawn.trans (checkSlots_moves { s with exc := _, ctb := _, cat := _ } _)

theorem setParts_moves {t : Ctb} (c : Ctx) (r : Table Nat) : CellMoves t (t.setParts c r) := by
  cases c <;> exact .single (.records t _ (fun _ e => e) (fun _ _ => rfl) (by simp [Ctb.setParts]) (fun _ => .refl _) rfl id)

end CellOperations

end Sys2Proof.Proofs

/-! ## Proofs: what a request can reach

Most requests reach one block and the reply; said once here, by the block that they reach. -/

namespace Sys2Proof.Proofs

open Sys2Proof Sys2Proof.Machine Sys2Proof.Laws

/-! ### Requests in general -/

/-- The replies are no part of what a predicate says. -/
def IgnoresReply (P : State → Prop) : Prop :=
  ∀ (s : State) (out : List Byte) (cursor : Option Nat) (slot : Option Reply), P s →
    P { s with cmd := { s.cmd with dataOut := out, cursor := cursor, replySlot := slot } }

/-- A request keeps what its owner keeps, if the replies are no part of it. -/
theorem request_keeps {P : State → Prop} (ignores : IgnoresReply P) {s : State} {k : RequestClass} {fits : Bool} {f : Frame}
    {owner : State → State × Answer} (keeps : ∀ u, P u → P (owner u).1) (hs : P s) : P (s.request k fits f owner) := by
  have clocked : P ((s.clockOut f.length).cancelFor k) := by
    cases k
    case ordinary => exact ignores s _ none s.cmd.replySlot hs
    all_goals exact ignores s _ s.cmd.cursor s.cmd.replySlot hs
  have placed (u : State) (tag : Byte) (a : Answer) (hu : P u) : P (u.place tag a) :=
    ignores u u.cmd.dataOut u.cmd.cursor _ hu
  simp only [State.request]
  split
  · exact placed _ _ _ (ignores s _ s.cmd.cursor s.cmd.replySlot hs)
  · split
    · exact placed _ _ _ (keeps _ clocked)
    · exact placed _ _ _ clocked

/-! ### What reaches the watches, the attention unit and the command port alone -/

/-- The second part differs from the first in its watches, its attention unit and its command port alone, and there the
long request is as it was. -/
def Quiet (s t : State) : Prop :=
  ∃ (ws : Vector Watch 8) (a : Att) (m : Cmd), t = { s with watches := ws, att := a, cmd := m } ∧ m.long = s.cmd.long

theorem quiet_refl (s : State) : Quiet s s := ⟨_, _, _, rfl, rfl⟩

theorem quiet_ignoresReply (s : State) : IgnoresReply (Quiet s) := by
  rintro _ out cursor slot ⟨ws, a, m, rfl, hm⟩
  exact ⟨ws, a, _, rfl, hm⟩

/-- An owner that is quiet. -/
def QuietOwner (owner : State → State × Answer) : Prop := ∀ s, Quiet s (owner s).1

theorem quiet_request {s : State} {k : RequestClass} {fits : Bool} {f : Frame} {owner : State → State × Answer}
    (h : QuietOwner owner) : Quiet s (s.request k fits f owner) := by
  refine request_keeps (quiet_ignoresReply s) (fun u hu => ?_) (quiet_refl s)
  obtain ⟨ws, a, m, rfl, hm⟩ := hu
  obtain ⟨ws', a', m', h', hm'⟩ := h { s with watches := ws, att := a, cmd := m }
  exact ⟨ws', a', m', h', hm'.trans hm⟩

/-- A READ request's owner that captures an answer. -/
theorem quiet_capture (s : State) (items : List Byte) : Quiet s (s.capture items).1 := ⟨_, _, _, rfl, rfl⟩

theorem readEntry_quiet (f : Frame) : QuietOwner (State.readEntry f) := by
  intro s
  simp only [State.readEntry, State.readVersion]
  repeat' split
  all_goals first | exact quiet_refl s | exact quiet_capture s _

theorem readStamp_quiet (f : Frame) : QuietOwner (State.readStamp f) := by
  intro s
  simp only [State.readStamp]
  split
  · exact quiet_refl s
  · exact quiet_capture s _

theorem readSummary_quiet (f : Frame) : QuietOwner (State.readSummary f) := by
  intro s
  simp only [State.readSummary]
  split
  · exact quiet_refl s
  · split
    · exact quiet_refl s
    · exact quiet_capture s _

theorem readCell_quiet (f : Frame) : QuietOwner (State.readCell f) := by
  intro s
  simp only [State.readCell, State.readCellByIndex, State.readCellBySlot]
  repeat' split
  all_goals first | exact quiet_refl s | exact quiet_capture s _

theorem readWatch_quiet (f : Frame) : QuietOwner (State.readWatch f) := by
  intro s
  simp only [State.readWatch]
  repeat' split
  all_goals first | exact quiet_refl s | exact quiet_capture s _

theorem readParameter_quiet (f : Frame) : QuietOwner (State.readParameter f) := by
  intro s
  simp only [State.readParameter]
  repeat' split
  all_goals first | exact quiet_refl s | exact quiet_capture s _

theorem readMore_quiet : QuietOwner State.readMore := by
  intro s
  simp only [State.readMore]
  repeat' split
  all_goals exact ⟨_, _, _, rfl, rfl⟩

theorem readStatus_quiet : QuietOwner State.readStatus := fun _ => ⟨_, _, _, rfl, rfl⟩

theorem setEnable_quiet (f : Frame) : QuietOwner (State.setEnable f) := by
  intro s
  simp only [State.setEnable]
  split <;> exact ⟨_, _, _, rfl, rfl⟩

theorem setWatch_quiet (f : Frame) : QuietOwner (State.setWatch f) := by
  intro s
  simp only [State.setWatch]
  repeat' split
  all_goals exact ⟨_, _, _, rfl, rfl⟩

theorem clearWatch_quiet (f : Frame) : QuietOwner (State.clearWatch f) := by
  intro s
  simp only [State.clearWatch]
  split <;> exact ⟨_, _, _, rfl, rfl⟩

theorem acknowledge_quiet (f : Frame) : QuietOwner (State.acknowledge f) := by
  intro s
  simp only [State.acknowledge]
  split <;> exact ⟨_, _, _, rfl, rfl⟩

theorem takeWatchRequest_quiet {s t : State} {c : Instr} (h : s.takeWatchRequest c = some t) : Quiet s t := by
  unfold State.takeWatchRequest at h
  split at h <;> simp only [Option.some.injEq, reduceCtorEq] at h <;> subst h
  · exact quiet_request (setWatch_quiet _)
  · exact quiet_request (clearWatch_quiet _)
  · exact quiet_request (acknowledge_quiet _)

theorem inTurn_quiet (s : State) (c : Instr) : Quiet s (s.inTurn c) := by
  simp only [State.inTurn]
  split
  · cases h : s.takeWatchRequest c with
    | none => exact quiet_refl s
    | some t => exact takeWatchRequest_quiet h
  · exact ⟨_, _, _, rfl, rfl⟩

/-- The commands that reach the watches, the attention unit and the command port alone. -/
def quietCommand : Instr → Bool
  | .nop _ | .status _ | .readEntry _ | .readStamp _ | .readSignature _ | .readSummary _ | .readCell _ | .setWatch _
  | .clearWatch _ | .readWatch _ | .setEnable _ | .acknowledge _ | .readParameter _ | .readCounters _ | .readMore _
  | .frameError _ | .unknownRequest _ _ => true
  | _ => false

theorem exec_quiet {c : Instr} (hc : quietCommand c = true) {s t : State} (h : exec c s = .next t) : Quiet s t := by
  cases c
  case nop => exact Host.Outcome.next.inj h ▸ quiet_request quiet_refl
  case status => exact Host.Outcome.next.inj h ▸ quiet_request readStatus_quiet
  case readEntry f => exact Host.Outcome.next.inj h ▸ quiet_request (readEntry_quiet f)
  case readStamp f => exact Host.Outcome.next.inj h ▸ quiet_request (readStamp_quiet f)
  case readSignature => exact Host.Outcome.next.inj h ▸ quiet_request fun s => quiet_capture s _
  case readSummary f => exact Host.Outcome.next.inj h ▸ quiet_request (readSummary_quiet f)
  case readCell f => exact Host.Outcome.next.inj h ▸ quiet_request (readCell_quiet f)
  case setWatch f => exact Host.Outcome.next.inj h ▸ inTurn_quiet s _
  case clearWatch f => exact Host.Outcome.next.inj h ▸ inTurn_quiet s _
  case acknowledge f => exact Host.Outcome.next.inj h ▸ inTurn_quiet s _
  case readWatch f => exact Host.Outcome.next.inj h ▸ quiet_request (readWatch_quiet f)
  case setEnable f => exact Host.Outcome.next.inj h ▸ quiet_request (setEnable_quiet f)
  case readParameter f => exact Host.Outcome.next.inj h ▸ quiet_request (readParameter_quiet f)
  case readCounters => exact Host.Outcome.next.inj h ▸ quiet_request fun s => quiet_capture s _
  case readMore => exact Host.Outcome.next.inj h ▸ quiet_request readMore_quiet
  case frameError => exact Host.Outcome.next.inj h ▸ ⟨_, _, _, rfl, rfl⟩
  case unknownRequest => exact Host.Outcome.next.inj h ▸ ⟨_, _, _, rfl, rfl⟩
  all_goals nomatch hc

/-! ### What reaches the catalogue -/

/-- The second part differs from the first in its catalogue and its command port alone; there the long request, and of the
signature walk the status, are as they were. -/
def CatalogueOnly (s t : State) : Prop :=
  ∃ (c : Cat) (m : Cmd), t = { s with cat := c, cmd := m } ∧ m.long = s.cmd.long ∧ c.sign.status = s.cat.sign.status

theorem disturb_signStatus (c : Cat) (segs : List Nat) : (c.disturb segs).sign.status = c.sign.status := by
  simp only [Cat.disturb]
  split <;> rfl

theorem catalogueOnly_refl (s : State) : CatalogueOnly s s := ⟨_, _, rfl, rfl, rfl⟩

theorem catalogueOnly_request {s : State} {k : RequestClass} {fits : Bool} {f : Frame} {owner : State → State × Answer}
    (h : ∀ u, CatalogueOnly u (owner u).1) : CatalogueOnly s (s.request k fits f owner) := by
  refine request_keeps (P := CatalogueOnly s) ?_ (fun u hu => ?_) (catalogueOnly_refl s)
  · rintro _ out cursor slot ⟨c, m, rfl, hm, hc⟩
    exact ⟨c, _, rfl, hm, hc⟩
  · obtain ⟨c, m, rfl, hm, hc⟩ := hu
    obtain ⟨c', m', h', hm', hc'⟩ := h { s with cat := c, cmd := m }
    exact ⟨c', m', h', hm'.trans hm, hc'.trans hc⟩

theorem changing_keeps {P : State → Prop} {s : State} {seg : Nat} {act : State × Answer} (hs : P s) (ha : P act.1) :
    P (s.changing seg act).1 := by
  simp only [State.changing]
  repeat' split
  all_goals assumption

theorem onEntry_keeps {P : State → Prop} {s : State} {seg : Nat} {act : Entry → State × Answer} (hs : P s)
    (ha : ∀ i e, s.cat.find seg = some (i, e) → P (act e).1) : P (s.onEntry seg act).1 := by
  simp only [State.onEntry]
  split
  · exact hs
  · exact ha _ _ ‹_›

theorem staging_keeps {P : State → Prop} {s : State} {act : Version → State} (hs : P s) (ha : ∀ v, P (act v)) :
    P (s.staging act).1 := by
  simp only [State.staging]
  split
  · exact hs
  · exact ha _

theorem putField_catalogueOnly (f : Frame) (s : State) : CatalogueOnly s (State.putField f s).1 := by
  simp only [State.putField]
  repeat' split
  all_goals exact ⟨_, _, rfl, rfl, rfl⟩

theorem loadStaging_catalogueOnly (f : Frame) (s : State) : CatalogueOnly s (State.loadStaging f s).1 := by
  simp only [State.loadStaging]
  repeat' split
  all_goals exact ⟨_, _, rfl, rfl, rfl⟩

theorem stageAdd_catalogueOnly (f : Frame) (s : State) : CatalogueOnly s (State.stageAdd f s).1 := by
  refine changing_keeps (catalogueOnly_refl s) ?_
  split
  · exact catalogueOnly_refl s
  · split
    · exact catalogueOnly_refl s
    · exact staging_keeps (catalogueOnly_refl s) fun v => ⟨_, _, rfl, rfl, disturb_signStatus _ _⟩

theorem stageChange_catalogueOnly (f : Frame) (s : State) : CatalogueOnly s (State.stageChange f s).1 := by
  refine changing_keeps (catalogueOnly_refl s) (onEntry_keeps (catalogueOnly_refl s) fun i e _ => ?_)
  split
  · exact staging_keeps (catalogueOnly_refl s) fun v => ⟨_, _, rfl, rfl, rfl⟩
  · exact catalogueOnly_refl s

theorem vacate_catalogueOnly (s : State) (seg : Nat) : CatalogueOnly s (s.vacate seg) :=
  ⟨_, _, rfl, rfl, disturb_signStatus _ _⟩

theorem unstage_catalogueOnly (f : Frame) (s : State) : CatalogueOnly s (State.unstage f s).1 := by
  refine changing_keeps (catalogueOnly_refl s) (onEntry_keeps (catalogueOnly_refl s) fun i e _ => ?_)
  split
  · exact vacate_catalogueOnly s _
  · exact ⟨_, _, rfl, rfl, rfl⟩
  · exact catalogueOnly_refl s

theorem retireAtBoundary_catalogueOnly (s : State) (seg : Nat) (e : Entry) :
    CatalogueOnly s (s.retireAtBoundary seg e).1 := by
  simp only [State.retireAtBoundary]
  split <;> exact ⟨_, _, rfl, rfl, rfl⟩

theorem retireImmediate_catalogueOnly (s : State) (seg : Nat) (e : Entry) :
    CatalogueOnly s (s.retireImmediate seg e).1 := by
  simp only [State.retireImmediate]
  repeat' split
  all_goals exact ⟨_, _, rfl, rfl, rfl⟩

theorem retire_catalogueOnly (f : Frame) (s : State) : CatalogueOnly s (State.retire f s).1 := by
  simp only [State.retire]
  split
  · exact catalogueOnly_refl s
  · split
    · exact catalogueOnly_refl s
    · refine changing_keeps (catalogueOnly_refl s) (onEntry_keeps (catalogueOnly_refl s) fun i e _ => ?_)
      split
      · exact vacate_catalogueOnly s _
      · split
        · exact retireAtBoundary_catalogueOnly s _ e
        · exact retireImmediate_catalogueOnly s _ e

theorem clearSuspect_catalogueOnly (f : Frame) (s : State) : CatalogueOnly s (State.clearSuspect f s).1 :=
  changing_keeps (catalogueOnly_refl s) (onEntry_keeps (catalogueOnly_refl s) fun _ _ _ => ⟨_, _, rfl, rfl, rfl⟩)

theorem writeStamp_catalogueOnly (f : Frame) (s : State) : CatalogueOnly s (State.writeStamp f s).1 := by
  simp only [State.writeStamp]
  repeat' split
  all_goals exact ⟨_, _, rfl, rfl, rfl⟩

/-- The requests that write the catalogue and no more. -/
def catalogueCommand : Instr → Bool
  | .putField _ | .clearStaging _ | .loadStaging _ | .stageAdd _ | .stageChange _ | .unstage _ | .retire _
  | .clearSuspect _ | .writeStamp _ => true
  | _ => false

theorem exec_catalogueOnly {c : Instr} (hc : catalogueCommand c = true) {s t : State} (h : exec c s = .next t) :
    CatalogueOnly s t := by
  cases c
  case putField f => exact Host.Outcome.next.inj h ▸ catalogueOnly_request (putField_catalogueOnly f)
  case clearStaging => exact Host.Outcome.next.inj h ▸ catalogueOnly_request fun _ => ⟨_, _, rfl, rfl, rfl⟩
  case loadStaging f => exact Host.Outcome.next.inj h ▸ catalogueOnly_request (loadStaging_catalogueOnly f)
  case stageAdd f => exact Host.Outcome.next.inj h ▸ catalogueOnly_request (stageAdd_catalogueOnly f)
  case stageChange f => exact Host.Outcome.next.inj h ▸ catalogueOnly_request (stageChange_catalogueOnly f)
  case unstage f => exact Host.Outcome.next.inj h ▸ catalogueOnly_request (unstage_catalogueOnly f)
  case retire f => exact Host.Outcome.next.inj h ▸ catalogueOnly_request (retire_catalogueOnly f)
  case clearSuspect f => exact Host.Outcome.next.inj h ▸ catalogueOnly_request (clearSuspect_catalogueOnly f)
  case writeStamp f => exact Host.Outcome.next.inj h ▸ catalogueOnly_request (writeStamp_catalogueOnly f)
  all_goals nomatch hc

end Sys2Proof.Proofs

/-! ## Proofs: the invariant of the cell table (chapters 6 and 7)

The commands that leave the cell table and the port alone; then, command by command, the moves that the others make. -/

namespace Sys2Proof.Proofs

open Sys2Proof Sys2Proof.Machine Sys2Proof.Laws

/-! ### Commands that leave the cell table and the port alone -/

/-- The second part has the part state, the cell table and the cell output port of the first. -/
def SameCells (s t : State) : Prop := t.part = s.part ∧ t.ctb = s.ctb ∧ t.cop = s.cop

theorem sameCells_refl (s : State) : SameCells s s := ⟨rfl, rfl, rfl⟩

theorem quiet_sameCells {s t : State} (h : Quiet s t) : SameCells s t := by
  obtain ⟨_, _, _, rfl, -⟩ := h
  exact ⟨rfl, rfl, rfl⟩

theorem request_sameCells {s : State} {k : RequestClass} {fits : Bool} {f : Frame} {owner : State → State × Answer}
    (h : ∀ u, SameCells u (owner u).1) : SameCells s (s.request k fits f owner) := by
  refine request_keeps (P := SameCells s) (fun _ _ _ _ hu => hu) (fun u hu => ?_) (sameCells_refl s)
  obtain ⟨part, ctb, cop⟩ := hu
  obtain ⟨part', ctb', cop'⟩ := h u
  exact ⟨part'.trans part, ctb'.trans ctb, cop'.trans cop⟩

theorem catalogueOnly_sameCells {s t : State} (h : CatalogueOnly s t) : SameCells s t := by
  obtain ⟨_, _, rfl, -, -⟩ := h
  exact ⟨rfl, rfl, rfl⟩

theorem commitRequest_sameCells (f : Frame) (s : State) : SameCells s (State.commitRequest f s).1 := by
  simp only [State.commitRequest]
  repeat' split
  all_goals exact ⟨rfl, rfl, rfl⟩

theorem signRequest_sameCells (f : Frame) (s : State) : SameCells s (State.signRequest f s).1 := by
  simp only [State.signRequest]
  split <;> exact ⟨rfl, rfl, rfl⟩

theorem flushRequest_sameCells (f : Frame) (s : State) : SameCells s (State.flushRequest f s).1 := by
  simp only [State.flushRequest]
  split <;> exact ⟨rfl, rfl, rfl⟩

theorem openExposure_sameCells (s : State) : SameCells s (State.openExposure s).1 := by
  simp only [State.openExposure]
  repeat' split
  all_goals exact ⟨rfl, rfl, rfl⟩

theorem closeShutter_sameCells (s : State) : SameCells s (State.closeShutter s).1 := by
  simp only [State.closeShutter]
  repeat' split
  all_goals simp [SameCells]

theorem releaseExposure_sameCells (f : Frame) (s : State) : SameCells s (State.releaseExposure f s).1 := by
  simp only [State.releaseExposure]
  repeat' split
  all_goals exact ⟨rfl, rfl, rfl⟩

/-- The commands that leave the part state, the cell table and the cell output port alone. -/
def cellNeutral (c : Instr) : Bool :=
  quietCommand c || catalogueCommand c || match c with
    | .commit _ | .signCatalogue _ | .openExposure _ | .closeShutter _ | .releaseExposure _
    | .flush _ | .openingEdge | .closingEdge | .wordSyncFound _ | .wordSyncLost _
    | .stripHeader _ _ | .row _ _ | .stripEnd _ _ | .verdictSent _ | .batchWindowExpiry | .batchApplicationBegin
    | .gatherTimerExpiry _ | .openingComplete | .commitBoundaryComplete | .signatureEntryStep | .signatureStampStep => true
    | _ => false

theorem exec_sameCells {c : Instr} (hc : cellNeutral c = true) {s t : State} (h : exec c s = .next t) : SameCells s t := by
  by_cases quiet : quietCommand c = true
  · exact quiet_sameCells (exec_quiet quiet h)
  by_cases catalogue : catalogueCommand c = true
  · exact catalogueOnly_sameCells (exec_catalogueOnly catalogue h)
  cases c
  case commit f => exact Host.Outcome.next.inj h ▸ request_sameCells (commitRequest_sameCells f)
  case signCatalogue f => exact Host.Outcome.next.inj h ▸ request_sameCells (signRequest_sameCells f)
  case flush f => exact Host.Outcome.next.inj h ▸ request_sameCells (flushRequest_sameCells f)
  case openExposure => exact Host.Outcome.next.inj h ▸ request_sameCells openExposure_sameCells
  case closeShutter => exact Host.Outcome.next.inj h ▸ request_sameCells closeShutter_sameCells
  case releaseExposure f => exact Host.Outcome.next.inj h ▸ request_sameCells (releaseExposure_sameCells f)
  case openingEdge =>
    simp only [exec, execOpeningEdge] at h
    (repeat' split at h) <;> obtain rfl := Host.Outcome.next.inj h <;> simp [SameCells]
  case closingEdge =>
    simp only [exec, execClosingEdge] at h
    (repeat' split at h) <;> obtain rfl := Host.Outcome.next.inj h <;> simp [SameCells]
  case wordSyncFound p =>
    simp only [exec, execWordSyncFound] at h
    obtain rfl := Host.Outcome.next.inj h
    simp [SameCells]
  case wordSyncLost p =>
    simp only [exec, execWordSyncLost] at h
    split at h <;> obtain rfl := Host.Outcome.next.inj h <;> simp [SameCells]
  case stripHeader p words =>
    simp only [exec, execStripHeader] at h
    (repeat' split at h) <;> obtain rfl := Host.Outcome.next.inj h <;> simp [SameCells]
  case row p words =>
    simp only [exec, execRow] at h
    split at h <;> obtain rfl := Host.Outcome.next.inj h <;> simp [SameCells]
  case stripEnd p words =>
    simp only [exec, execStripEnd] at h
    (repeat' split at h) <;> obtain rfl := Host.Outcome.next.inj h <;> simp [SameCells]
  case verdictSent p =>
    simp only [exec, execVerdictSent] at h
    split at h <;> obtain rfl := Host.Outcome.next.inj h <;> simp [SameCells]
  case batchWindowExpiry =>
    simp only [exec, execBatchWindowExpiry] at h
    split at h <;> obtain rfl := Host.Outcome.next.inj h <;> simp [SameCells]
  case batchApplicationBegin =>
    simp only [exec, execBatchApplicationBegin] at h
    split at h <;> obtain rfl := Host.Outcome.next.inj h <;> simp [SameCells]
  case gatherTimerExpiry c =>
    simp only [exec, execGatherTimerExpiry] at h
    split at h <;> obtain rfl := Host.Outcome.next.inj h <;> simp [SameCells]
  case openingComplete =>
    simp only [exec, execOpeningComplete] at h
    split at h <;> obtain rfl := Host.Outcome.next.inj h <;> simp [SameCells]
  case commitBoundaryComplete =>
    simp only [exec, execCommitBoundaryComplete] at h
    split at h <;> obtain rfl := Host.Outcome.next.inj h <;> simp [SameCells]
  case signatureEntryStep =>
    simp only [exec, execSignatureEntryStep] at h
    (repeat' split at h) <;> obtain rfl := Host.Outcome.next.inj h <;> simp [SameCells]
  case signatureStampStep =>
    simp only [exec, execSignatureStampStep] at h
    split at h <;> obtain rfl := Host.Outcome.next.inj h <;> simp [SameCells]
  all_goals simp_all [cellNeutral, quietCommand, catalogueCommand]

/-! ### The moves of the other commands -/

/-- The invariant of the cell table holds of a part that has the same part state and port state, and moved cells. -/
theorem slotsConsistent_of_moves {s t : State} (part : t.part = s.part) (port : t.cop.state = s.cop.state)
    (cells : CellMoves s.ctb t.ctb) (h : s.slotsConsistent) : t.slotsConsistent := by
  rw [slotsConsistent_iff] at h ⊢
  rw [part, port]
  exact ⟨h.1, cellMoves_ok cells h.2⟩

/-- The agreement speaks of the slots, the touch order and the queued slots alone. -/
theorem tableOk_congr {t t' : Ctb} {out out' : List Nat} {current : Option Nat}
    (ok : TableOk t out current) (slots : t'.slots = t.slots) (touch : t'.touch = t.touch)
    (items : out' ++ queuedSlots t'.queue = out ++ queuedSlots t.queue) : TableOk t' out' current := by
  have same (n : Nat) : slotState t' n = slotState t n := by rw [slotState, slots, slotState]
  refine ⟨slots ▸ ok.wf, slots ▸ ok.bound, touch ▸ ok.touch_nodup, items ▸ ok.queue_nodup, fun n => ?_, fun n => ?_,
    fun n => ?_⟩
  · rw [touch, same, ok.touch_iff]
  · rw [items, same, ok.queue_iff]
  · rw [same, ok.current_iff]

theorem takeHead_slotsConsistent {s : State} (h : s.slotsConsistent) : s.takeHead.slotsConsistent := by
  simp only [State.takeHead]
  split
  case isFalse => exact h
  case isTrue idle =>
    obtain ⟨part, ok⟩ := (slotsConsistent_iff s).1 h
    rw [idle.1] at ok part
    split
    · exact h
    · rename_i n rest head
      exact (slotsConsistent_iff _).2 ⟨by simpa using part, tableOk_taken ok head⟩
    · rename_i c rest head
      have items : queuedSlots s.ctb.queue = queuedSlots rest := by rw [head]; rfl
      exact (slotsConsistent_iff _).2
        ⟨by simpa using part, tableOk_congr ok rfl rfl (by simp [items])⟩

theorem slotsConsistent_ignoresReply : IgnoresReply State.slotsConsistent := fun _ _ _ _ h => h

theorem fullReset_slotsConsistent (s : State) : s.fullReset.slotsConsistent := by
  obtain ⟨_, ok⟩ := (slotsConsistent_iff _).1 reset_slotsConsistent
  exact (slotsConsistent_iff _).2 ⟨by simp, tableOk_congr ok rfl rfl rfl⟩

/-- A trailer joins the queue. -/
theorem queueTrailer_slotsConsistent {s : State} (c : Ctx) (h : s.slotsConsistent) :
    (s.queueTrailer c).slotsConsistent := by
  obtain ⟨part, ok⟩ := (slotsConsistent_iff s).1 h
  refine (slotsConsistent_iff _).2 ⟨by simpa using part, ?_⟩
  have port : (s.queueTrailer c).cop = s.cop := by simp
  rw [port]
  refine tableOk_congr ok rfl rfl ?_
  show queuedSlots (s.ctb.queue ++ [.trailer c]) = _
  rw [queuedSlots_append]
  simp [queuedSlots]

theorem attempt_slotsConsistent {s : State} (h : s.slotsConsistent) : s.attempt.slotsConsistent :=
  slotsConsistent_of_moves (by simp) (by simp) (attempt_moves s) h

theorem endExposure_slotsConsistent (f : Frame) {s : State} (h : s.slotsConsistent) :
    (State.endExposure f s).1.slotsConsistent := by
  simp only [State.endExposure, State.endExposureOf]
  split
  · exact h
  · split
    · exact h
    · split
      · exact takeHead_slotsConsistent (queueTrailer_slotsConsistent _ h)
      · split
        · exact slotsConsistent_of_moves (by simp) (by simp) (by simpa using .refl) h
        · exact h
      all_goals exact h

theorem setParameter_slotsConsistent (f : Frame) {s : State} (h : s.slotsConsistent) :
    (State.setParameter f s).1.slotsConsistent := by
  simp only [State.setParameter]
  split
  · exact h
  · split
    · exact h
    · rename_i g _
      have written : State.slotsConsistent { s with params := g } := h
      simp only [State.afterWrite]
      split
      · exact takeHead_slotsConsistent (attempt_slotsConsistent written)
      · split <;> exact written
      · simp only [List.foldl]
        exact slotsConsistent_of_moves (by simp) (by simp) (by simpa using .refl) written
      · exact written

/-- The slots that were queued are freed one after another. -/
theorem freeSlots_tableOk (ns : List Nat) {s : State} {current : Option Nat} (ok : TableOk s.ctb ns current) :
    TableOk (ns.foldl State.freeSlot s).ctb [] current := by
  induction ns generalizing s with
  | nil => exact ok
  | cons n ns ih => exact ih (cellMoves_ok (freeSlot_moves s n) (tableOk_freed ok))

theorem queuedSlots_queuedTrailers (q : List QueueItem) : queuedSlots (queuedTrailers q) = [] := by
  induction q with
  | nil => rfl
  | cons i q ih =>
    cases i
    · simpa [queuedTrailers] using ih
    · simpa [queuedTrailers, queuedSlots] using ih

theorem flushQueue_slotsConsistent {s : State} (h : s.slotsConsistent) : s.flushQueue.slotsConsistent := by
  obtain ⟨part, ok⟩ := (slotsConsistent_iff s).1 h
  refine (slotsConsistent_iff _).2 ⟨by simpa using part, ?_⟩
  have emptied : TableOk { s.ctb with queue := queuedTrailers s.ctb.queue } (queuedSlots s.ctb.queue) s.cop.state.slot? :=
    tableOk_congr ok rfl rfl (by simp [queuedSlots_queuedTrailers])
  rw [flushQueue_frame s |>.2.2.2.1]
  exact freeSlots_tableOk _ (s := { s with ctb := _ }) emptied

theorem read_filter {α : Type} (t : Table α) (p : α → Bool) (n : Nat) (h : Table.wf t = true) :
    Table.read (t.filter fun e => p e.2) n = (Table.read t n).filter p := by
  induction t with
  | nil => rfl
  | cons e t ih =>
    obtain ⟨below, tail⟩ := (table_wf_cons e t).1 h
    by_cases hp : p e.2 = true
    · simp only [List.filter_cons, hp, if_true, Table.read, ih tail]
      split
      · simp [Option.filter, hp]
      · rfl
    · simp only [List.filter_cons, hp, Bool.false_eq_true, if_false, ih tail, Table.read]
      split
      · rename_i hn
        rw [read_eq_none_of_lt t n fun x hx => hn ▸ below x hx]
        simp [Option.filter, hp]
      · rfl

/-- A FLUSH leaves no slot but the EMITTING one. -/
theorem tableOk_emptied {t : Ctb} {current : Option Nat} (ok : TableOk t [] current) : TableOk t.emptied [] current := by
  have state (n : Nat) : slotState t.emptied n = (slotState t n).filter (· == .emitting) := by
    rw [slotState, slotState, Ctb.emptied, read_filter _ (fun e => e.state == .emitting) n ok.wf]
    cases t.slots.read n with
    | none => rfl
    | some e => by_cases he : e.state = .emitting <;> simp [Option.filter, he]
  refine ⟨table_wf_filter _ _ ok.wf, fun e he => ok.bound e (List.mem_filter.1 he).1, List.nodup_nil, List.nodup_nil,
    fun n => ?_, fun n => ?_, fun n => ?_⟩
  · rw [state, Option.filter_eq_some_iff]
    simp [Ctb.emptied]
  · rw [state, Option.filter_eq_some_iff]
    simp [Ctb.emptied, queuedSlots]
  · rw [state, Option.filter_eq_some_iff, ok.current_iff]
    simp

/-- The cut of an emission frees its slot (R146). -/
theorem cutEmission_slotsConsistent {s : State} (h : s.slotsConsistent) : s.cutEmission.slotsConsistent := by
  obtain ⟨part, ok⟩ := (slotsConsistent_iff s).1 h
  simp only [State.cutEmission]
  split
  case h_1 n port | h_2 n _ _ _ _ port =>
    rw [port] at part ok
    exact (slotsConsistent_iff _).2 ⟨by simpa using part, tableOk_sent ok⟩
  case h_3 port =>
    rw [port] at part ok
    exact (slotsConsistent_iff _).2 ⟨by simpa using part, ok⟩
  all_goals exact h

theorem readBeforeCut_moves (s : State) : CellMoves s.ctb s.readBeforeCut.ctb := by
  simp only [State.readBeforeCut]
  split
  · rename_i n _
    exact memoryErrors_moves { s with cmd.free := s.cmd.free + 1 } n (errorsBeforeCut s.cmd.free)
  all_goals exact .refl

theorem flushRest_slotsConsistent {s : State} (h : s.slotsConsistent) : s.flushRest.slotsConsistent := by
  have read := slotsConsistent_of_moves (t := s.readBeforeCut) (by simp) (by simp) (readBeforeCut_moves s) h
  have emptied : State.slotsConsistent { s.readBeforeCut with ctb := s.readBeforeCut.ctb.emptied } := by
    obtain ⟨part, ok⟩ := (slotsConsistent_iff _).1 read
    exact (slotsConsistent_iff _).2 ⟨part, tableOk_emptied ok⟩
  exact cutEmission_slotsConsistent emptied

/-- The slot of the port's record is freed, and the port is IDLE. -/
theorem recordSent_slotsConsistent {s : State} {n : Nat} (port : s.cop.state.slot? = some n) (h : s.slotsConsistent) :
    (s.recordSent n).slotsConsistent := by
  obtain ⟨part, ok⟩ := (slotsConsistent_iff s).1 h
  rw [port] at ok
  have notReset : s.cop.state ≠ .reset := fun hreset => by rw [hreset] at port; nomatch port
  obtain ⟨e, listed, -⟩ := slotState_eq_some.1 ((ok.current_iff n).1 rfl)
  have freed : TableOk (s.freeSlot n).ctb [] none := cellMoves_ok (freeSlot_moves s n) (tableOk_sent ok)
  simp only [State.recordSent, listed]
  refine takeHead_slotsConsistent ((slotsConsistent_iff _).2 ⟨?_, freed⟩)
  simp [part, notReset]

theorem reachDone_moves (s : State) (c : Ctx) : CellMoves s.ctb (s.reachDone c).ctb := by
  simpa [State.reachDone] using setParts_moves c []

theorem forcedClose_slotsConsistent {s : State} (c : Ctx) (h : s.slotsConsistent) : (s.forcedClose c).slotsConsistent :=
  slotsConsistent_of_moves (by simp) (by simp) (forcedClose_moves s c ((slotsConsistent_iff s).1 h).2.touch_nodup) h

/-- A prepared record stands before its header; the port's item is the slot as before. -/
theorem prepare_port {s : State} {n : Nat} (port : s.cop.state = .preparing n) (found : List (Nat × MemoryError)) :
    (s.prepare n found).cop.state.slot? = some n ∧ (s.prepare n found).cop.state ≠ .reset := by
  simp only [State.prepare, memoryErrors_frame]
  split
  · simp [port, PortState.slot?]
  · simp [PortState.slot?]

/-- Every command keeps the invariant of the cell table. -/
theorem exec_slotsConsistent {c : Instr} {s t : State} (h : s.slotsConsistent) (run : exec c s = .next t) :
    t.slotsConsistent := by
  by_cases neutral : cellNeutral c = true
  · obtain ⟨part, ctb, cop⟩ := exec_sameCells neutral run
    exact slotsConsistent_of_moves part (congrArg Cop.state cop) (cellMoves_of_eq ctb) h
  obtain ⟨part, ok⟩ := (slotsConsistent_iff s).1 h
  cases c
  case endExposure f =>
    exact Host.Outcome.next.inj run ▸ request_keeps slotsConsistent_ignoresReply (fun _ => endExposure_slotsConsistent f) h
  case setParameter f =>
    exact Host.Outcome.next.inj run ▸ request_keeps slotsConsistent_ignoresReply (fun _ => setParameter_slotsConsistent f) h
  case resetPart f =>
    exact Host.Outcome.next.inj run ▸
      request_keeps slotsConsistent_ignoresReply (fun u _ => fullReset_slotsConsistent u) h
  case fullReset => exact Host.Outcome.next.inj run ▸ fullReset_slotsConsistent s
  case pauseLineRise =>
    simp only [exec, execPauseLineRise] at run
    split at run <;> obtain rfl := Host.Outcome.next.inj run
    · rename_i port
      rw [port] at part ok
      exact (slotsConsistent_iff _).2 ⟨by simpa using part, ok⟩
    · exact (slotsConsistent_iff _).2 ⟨part, ok⟩
  case pauseLineFall =>
    obtain rfl := Host.Outcome.next.inj run
    have resumed : s.cop.state.resume.slot? = s.cop.state.slot? ∧ (s.cop.state.resume = .reset ↔ s.cop.state = .reset) := by
      cases s.cop.state <;> simp [PortState.resume, PortState.slot?]
    refine takeHead_slotsConsistent ((slotsConsistent_iff _).2 ⟨part.trans resumed.2.symm, ?_⟩)
    exact resumed.1 ▸ ok
  case batchWithdrawal =>
    simp only [exec, execBatchWithdrawal] at run
    split at run <;> obtain rfl := Host.Outcome.next.inj run
    · exact takeHead_slotsConsistent (slotsConsistent_of_moves (by simp) (by simp)
        (by simpa using withdrawMembers_moves s s.cat.members) h)
    · exact h
  case forcedClose c =>
    simp only [exec, execForcedClose] at run
    split at run <;> obtain rfl := Host.Outcome.next.inj run
    · exact takeHead_slotsConsistent (queueTrailer_slotsConsistent c (forcedClose_slotsConsistent c h))
    · exact h
  case flushFirstStep =>
    simp only [exec, execFlushFirstStep] at run
    split at run <;> obtain rfl := Host.Outcome.next.inj run
    · refine flushQueue_slotsConsistent (slotsConsistent_of_moves (by simp) (by simp)
        (cellMoves_of_eq (abandonWhere_frame _ _ _).2.2.1) (attempt_slotsConsistent ?_))
      exact h
    · exact h
  case flushComplete =>
    simp only [exec, execFlushComplete] at run
    split at run <;> obtain rfl := Host.Outcome.next.inj run
    · exact takeHead_slotsConsistent (slotsConsistent_of_moves (by simp) (by simp) (by simpa using .refl)
        (flushRest_slotsConsistent h))
    · exact h
  case rowReserve =>
    simp only [exec, execRowReserve] at run
    (repeat' split at run) <;> obtain rfl := Host.Outcome.next.inj run
    · exact h
    · exact takeHead_slotsConsistent (slotsConsistent_of_moves (by simp) (by simp) (ask_moves (s.changeCommit _) _) h)
    · exact h
  case cellOpeningComplete =>
    simp only [exec, execCellOpeningComplete] at run
    (repeat' split at run) <;> obtain rfl := Host.Outcome.next.inj run
    · exact h
    · exact h
    · exact takeHead_slotsConsistent (slotsConsistent_of_moves (by simp) (by simp) (openingDone_moves s _ _) h)
  case pixelPlace found =>
    simp only [exec, execPixelPlace] at run
    (repeat' split at run) <;> obtain rfl := Host.Outcome.next.inj run
    · exact h
    · exact slotsConsistent_of_moves (by simp) (by simp) (placePixel_moves s _ _ found) h
    · exact h
    · exact h
  case rowAdvance =>
    simp only [exec, execRowAdvance] at run
    split at run
    · exact Host.Outcome.next.inj run ▸ h
    · rename_i k _
      split at run
      · have advanced := advanceCells_moves ((s.changeCommit fun m => { m with phase := .advance }).advanceProgress k) k
        rw [advanceProgress_frame _ _ |>.2.2.2.2.1] at advanced
        split at run <;> obtain rfl := Host.Outcome.next.inj run
        · exact takeHead_slotsConsistent (slotsConsistent_of_moves (by simp) (by simp) advanced h)
        · exact takeHead_slotsConsistent (slotsConsistent_of_moves (by simp) (by simp) (by simpa using advanced) h)
      · exact Host.Outcome.next.inj run ▸ h
  case preparationEnd found =>
    simp only [exec, execPreparationEnd] at run
    split at run <;> obtain rfl := Host.Outcome.next.inj run
    · rename_i n port
      have cells := prepare_moves s n found
      rw [port] at part ok
      obtain ⟨item, notReset⟩ := prepare_port port found
      refine (slotsConsistent_iff _).2 ⟨by simpa [notReset] using part, ?_⟩
      exact item ▸ cellMoves_ok cells ok
    · exact h
  case unitSent =>
    simp only [exec, execUnitSent] at run
    split at run
    · rename_i n header rows position port
      rw [port] at part ok
      split at run <;> obtain rfl := Host.Outcome.next.inj run
      · exact (slotsConsistent_iff _).2 ⟨by simpa using part, ok⟩
      · refine recordSent_slotsConsistent (by simp [port, PortState.slot?]) h
    · exact Host.Outcome.next.inj run ▸ h
  case trailerSent =>
    simp only [exec, execTrailerSent] at run
    split at run
    · rename_i r point port
      rw [port] at part ok
      split at run <;> obtain rfl := Host.Outcome.next.inj run
      · exact h
      · refine takeHead_slotsConsistent (slotsConsistent_of_moves (by simp) (by simp) (reachDone_moves _ _) ?_)
        exact (slotsConsistent_iff _).2 ⟨by simpa using part, ok⟩
    · exact Host.Outcome.next.inj run ▸ h
  case abortMarkerSent =>
    simp only [exec, execAbortMarkerSent] at run
    split at run <;> obtain rfl := Host.Outcome.next.inj run
    · rename_i port
      rw [port] at part ok
      exact takeHead_slotsConsistent ((slotsConsistent_iff _).2 ⟨by simpa using part, ok⟩)
    · exact h
  case startupClearingEnd =>
    simp only [exec, execStartupClearingEnd] at run
    split at run <;> obtain rfl := Host.Outcome.next.inj run
    · rename_i starting
      rw [part.1 starting] at ok
      exact takeHead_slotsConsistent ((slotsConsistent_iff _).2 ⟨by simp, tableOk_congr ok rfl rfl rfl⟩)
    · exact h
  all_goals simp_all [cellNeutral, quietCommand, catalogueCommand]

/-- Settles O59: a tick leaves the cells alone, and every command keeps the invariant. -/
theorem slotsStayConsistent : Obligations.SlotsStayConsistent := by
  intro s t h run
  cases pending : s.pending with
  | nil =>
    rw [step_of_empty pending] at run
    exact Host.Outcome.next.inj run ▸ h
  | cons c rest =>
    rw [step_of_cons pending] at run
    exact exec_slotsConsistent (s := { s with pending := rest }) h run

end Sys2Proof.Proofs

/-! ## Proofs: the canonical form of cell memory (R112)

Every move of the cells keeps it; what else a command does to the cell table leaves cell memory alone, or empties it. -/

namespace Sys2Proof.Proofs

open Sys2Proof Sys2Proof.Machine Sys2Proof.Laws

/-- Cell memory is in canonical form. -/
def MemoryOk (s : State) : Prop := s.ctb.memory.wf = true

theorem memoryOk_of_moves {s t : State} (cells : CellMoves s.ctb t.ctb) (h : MemoryOk s) : MemoryOk t :=
  cellMoves_memory cells h

theorem memoryOk_of_eq {s t : State} (memory : t.ctb.memory = s.ctb.memory) (h : MemoryOk s) : MemoryOk t := by
  rw [MemoryOk, memory]
  exact h

theorem takeHead_memory (s : State) : s.takeHead.ctb.memory = s.ctb.memory := by
  simp only [State.takeHead]
  repeat' split
  all_goals rfl

theorem report_memory (s : State) (test : WatchSetting → Bool) (c : Ctx) (n : Nat) (h : FirstHit) :
    (s.report test c n h).ctb.memory = s.ctb.memory :=
  report_keeps s (fun s => s.ctb.memory) c n h (fun s w => by rw [matchWatch_slots]) test

theorem queueSlot_memory (s : State) (n : Nat) (k : Completeness) : (s.queueSlot n k).ctb.memory = s.ctb.memory := by
  simp only [State.queueSlot]
  split
  · rfl
  · rename_i e _
    rw [report_memory]
    cases e.ctx <;> rfl

theorem closeSlot_memory (s : State) (n : Nat) : (s.closeSlot n).ctb.memory = s.ctb.memory := by
  simp only [State.closeSlot]
  split
  · rfl
  · rw [State.queueNext, queueSlot_memory]
    simp

theorem forcedClose_memory (s : State) (c : Ctx) : (s.forcedClose c).ctb.memory = s.ctb.memory :=
  foldl_keeps (fun s => s.ctb.memory) State.closeSlot closeSlot_memory _ s

theorem queueTrailer_memory (s : State) (c : Ctx) : (s.queueTrailer c).ctb.memory = s.ctb.memory := rfl

theorem takeHead_memoryOk {s : State} (h : MemoryOk s) : MemoryOk s.takeHead := memoryOk_of_eq (takeHead_memory s) h

theorem memoryOk_ignoresReply : IgnoresReply MemoryOk := fun _ _ _ _ h => h

theorem freeSlot_memoryOk (n : Nat) {s : State} (h : MemoryOk s) : MemoryOk (s.freeSlot n) :=
  cellMoves_memory (freeSlot_moves s n) h

theorem freeSlots_memoryOk (ns : List Nat) {s : State} (h : MemoryOk s) : MemoryOk (ns.foldl State.freeSlot s) := by
  induction ns generalizing s with
  | nil => exact h
  | cons n ns ih => exact ih (freeSlot_memoryOk n h)

theorem flushQueue_memoryOk {s : State} (h : MemoryOk s) : MemoryOk s.flushQueue :=
  freeSlots_memoryOk (queuedSlots s.ctb.queue) (s := { s with ctb.queue := queuedTrailers s.ctb.queue }) h

theorem attempt_memoryOk {s : State} (h : MemoryOk s) : MemoryOk s.attempt := memoryOk_of_moves (attempt_moves s) h

theorem endExposure_memory (f : Frame) (s : State) : (State.endExposure f s).1.ctb.memory = s.ctb.memory := by
  simp only [State.endExposure, State.endExposureOf]
  split
  · rfl
  · split
    · rfl
    · split
      · exact takeHead_memory _
      · split <;> simp
      all_goals rfl

theorem setParameter_memoryOk (f : Frame) {s : State} (h : MemoryOk s) : MemoryOk (State.setParameter f s).1 := by
  simp only [State.setParameter]
  split
  · exact h
  · split
    · exact h
    · rename_i g _
      have written : MemoryOk { s with params := g } := h
      simp only [State.afterWrite]
      split
      · exact takeHead_memoryOk (attempt_memoryOk written)
      · split <;> exact written
      · exact memoryOk_of_eq (by simp [List.foldl]) written
      · exact written

theorem cutEmission_memory (s : State) : s.cutEmission.ctb.memory = s.ctb.memory := by
  simp only [State.cutEmission]
  split <;> rfl

theorem flushRest_memoryOk {s : State} (h : MemoryOk s) : MemoryOk s.flushRest := by
  have read : MemoryOk s.readBeforeCut := memoryOk_of_moves (readBeforeCut_moves s) h
  refine memoryOk_of_eq (s := s.readBeforeCut) ?_ read
  simp [State.flushRest, cutEmission_memory, Ctb.emptied]

theorem recordSent_memoryOk (n : Nat) {s : State} (h : MemoryOk s) : MemoryOk (s.recordSent n) := by
  simp only [State.recordSent]
  refine takeHead_memoryOk ?_
  split
  · exact freeSlot_memoryOk n h
  · exact h

/-- Every command keeps the canonical form of cell memory. -/
theorem exec_memoryOk {c : Instr} {s t : State} (h : MemoryOk s) (run : exec c s = .next t) : MemoryOk t := by
  by_cases neutral : cellNeutral c = true
  · exact memoryOk_of_eq (congrArg Ctb.memory (exec_sameCells neutral run).2.1) h
  cases c
  case endExposure f =>
    exact Host.Outcome.next.inj run ▸
      request_keeps memoryOk_ignoresReply (fun u => memoryOk_of_eq (endExposure_memory f u)) h
  case setParameter f =>
    exact Host.Outcome.next.inj run ▸ request_keeps memoryOk_ignoresReply (fun _ => setParameter_memoryOk f) h
  case resetPart f =>
    exact Host.Outcome.next.inj run ▸ request_keeps memoryOk_ignoresReply (fun _ hu => hu) h
  case fullReset => exact Host.Outcome.next.inj run ▸ h
  case pauseLineRise =>
    simp only [exec, execPauseLineRise] at run
    split at run <;> exact Host.Outcome.next.inj run ▸ h
  case pauseLineFall => exact Host.Outcome.next.inj run ▸ takeHead_memoryOk h
  case batchWithdrawal =>
    simp only [exec, execBatchWithdrawal] at run
    split at run <;> obtain rfl := Host.Outcome.next.inj run
    · exact takeHead_memoryOk (memoryOk_of_moves (by simpa using withdrawMembers_moves s s.cat.members) h)
    · exact h
  case forcedClose c =>
    simp only [exec, execForcedClose] at run
    split at run <;> obtain rfl := Host.Outcome.next.inj run
    · exact takeHead_memoryOk (memoryOk_of_eq (forcedClose_memory s c) h)
    · exact h
  case flushFirstStep =>
    simp only [exec, execFlushFirstStep] at run
    split at run <;> obtain rfl := Host.Outcome.next.inj run
    · refine flushQueue_memoryOk (memoryOk_of_moves (cellMoves_of_eq (abandonWhere_frame _ _ _).2.2.1) (attempt_memoryOk ?_))
      exact h
    · exact h
  case flushComplete =>
    simp only [exec, execFlushComplete] at run
    split at run <;> obtain rfl := Host.Outcome.next.inj run
    · exact takeHead_memoryOk (memoryOk_of_eq (by simp) (flushRest_memoryOk h))
    · exact h
  case rowReserve =>
    simp only [exec, execRowReserve] at run
    (repeat' split at run) <;> obtain rfl := Host.Outcome.next.inj run
    · exact h
    · exact takeHead_memoryOk (memoryOk_of_moves (ask_moves (s.changeCommit _) _) h)
    · exact h
  case cellOpeningComplete =>
    simp only [exec, execCellOpeningComplete] at run
    (repeat' split at run) <;> obtain rfl := Host.Outcome.next.inj run
    · exact h
    · exact h
    · exact takeHead_memoryOk (memoryOk_of_moves (openingDone_moves s _ _) h)
  case pixelPlace found =>
    simp only [exec, execPixelPlace] at run
    (repeat' split at run) <;> obtain rfl := Host.Outcome.next.inj run
    · exact h
    · exact memoryOk_of_moves (placePixel_moves s _ _ found) h
    · exact h
    · exact h
  case rowAdvance =>
    simp only [exec, execRowAdvance] at run
    split at run
    · exact Host.Outcome.next.inj run ▸ h
    · rename_i k _
      split at run
      · have advanced := advanceCells_moves ((s.changeCommit fun m => { m with phase := .advance }).advanceProgress k) k
        rw [(advanceProgress_frame _ _).2.2.2.2.1] at advanced
        split at run <;> obtain rfl := Host.Outcome.next.inj run
        · exact takeHead_memoryOk (memoryOk_of_moves advanced h)
        · exact takeHead_memoryOk (memoryOk_of_moves (by simpa using advanced) h)
      · exact Host.Outcome.next.inj run ▸ h
  case preparationEnd found =>
    simp only [exec, execPreparationEnd] at run
    split at run <;> obtain rfl := Host.Outcome.next.inj run
    · exact memoryOk_of_moves (prepare_moves s _ found) h
    · exact h
  case unitSent =>
    simp only [exec, execUnitSent] at run
    split at run
    · split at run <;> obtain rfl := Host.Outcome.next.inj run
      · exact h
      · exact recordSent_memoryOk _ h
    · exact Host.Outcome.next.inj run ▸ h
  case trailerSent =>
    simp only [exec, execTrailerSent] at run
    split at run
    · split at run <;> obtain rfl := Host.Outcome.next.inj run
      · exact h
      · exact takeHead_memoryOk (memoryOk_of_moves (reachDone_moves _ _) h)
    · exact Host.Outcome.next.inj run ▸ h
  case abortMarkerSent =>
    simp only [exec, execAbortMarkerSent] at run
    split at run <;> obtain rfl := Host.Outcome.next.inj run
    · exact takeHead_memoryOk h
    · exact h
  case startupClearingEnd =>
    simp only [exec, execStartupClearingEnd] at run
    split at run <;> obtain rfl := Host.Outcome.next.inj run
    · exact takeHead_memoryOk memory_wf_nil
    · exact h
  all_goals simp_all [cellNeutral, quietCommand, catalogueCommand]

/-- Settles O56: a tick leaves cell memory alone, and every command keeps its form. -/
theorem memoryStaysCanonical : Obligations.MemoryStaysCanonical := by
  intro s t h run
  cases pending : s.pending with
  | nil =>
    rw [step_of_empty pending] at run
    exact Host.Outcome.next.inj run ▸ h
  | cons c rest =>
    rw [step_of_cons pending] at run
    exact exec_memoryOk (s := { s with pending := rest }) h run

end Sys2Proof.Proofs

/-! ## Proofs: what leaves the contexts in their states (chapter 3)

Counts, progress and withdrawals change a context without moving it between its states; said once, by one relation. -/

namespace Sys2Proof.Proofs

open Sys2Proof Sys2Proof.Machine Sys2Proof.Laws

/-- The second context has the state, number, end cause, segments and fixed lists of the first, runs no timer that the
first does not, and is FREE as the first is. -/
structure ContextKept (x y : Context) : Prop where
  state : y.state = x.state
  number : y.number = x.number
  endCause : y.endCause = x.endCause
  segs : (y.progress.map fun r => r.seg) = x.progress.map fun r => r.seg
  timer : y.timer ≠ none → x.timer ≠ none
  fixed : y.summary.fixed = x.summary.fixed
  free : x = Context.free → y = Context.free

/-- Exposure control with its contexts kept, and the opening and the FLUSH conditions as they were. -/
structure ExcKept (x y : Exc) : Prop where
  ctx : ∀ c, ContextKept (x.ctx c) (y.ctx c)
  opening : y.opening = x.opening
  flushing : y.flushing = x.flushing

theorem contextKept_refl (x : Context) : ContextKept x x := ⟨rfl, rfl, rfl, rfl, id, rfl, id⟩

theorem contextKept_trans {x y z : Context} (h : ContextKept x y) (h' : ContextKept y z) : ContextKept x z :=
  ⟨h'.state.trans h.state, h'.number.trans h.number, h'.endCause.trans h.endCause, h'.segs.trans h.segs,
    fun ht => h.timer (h'.timer ht), h'.fixed.trans h.fixed, fun hf => h'.free (h.free hf)⟩

theorem excKept_refl (x : Exc) : ExcKept x x := ⟨fun _ => contextKept_refl _, rfl, rfl⟩

theorem excKept_of_eq {x y : Exc} (h : y = x) : ExcKept x y := h ▸ excKept_refl x

theorem excKept_trans {x y z : Exc} (h : ExcKept x y) (h' : ExcKept y z) : ExcKept x z :=
  ⟨fun c => contextKept_trans (h.ctx c) (h'.ctx c), h'.opening.trans h.opening, h'.flushing.trans h.flushing⟩

theorem ctx_setCtx_of_ne {x : Exc} {c d : Ctx} (h : d ≠ c) (k : Context) : (x.setCtx c k).ctx d = x.ctx d := by
  cases c <;> cases d <;> first | rfl | exact absurd rfl h

theorem excKept_setCtx {x : Exc} {c : Ctx} {k : Context} (h : ContextKept (x.ctx c) k) : ExcKept x (x.setCtx c k) := by
  refine ⟨fun d => ?_, setCtx_opening .., setCtx_flushing ..⟩
  by_cases hd : d = c
  · subst hd
    exact (ctx_setCtx_self x d k).symm ▸ h
  · exact (ctx_setCtx_of_ne hd k).symm ▸ contextKept_refl _

/-- Counting keeps a context, if the counter leaves the fixed lists alone. -/
theorem contextKept_count (x : Context) (f : Summary → Summary) (fixed : ∀ m, (f m).fixed = m.fixed) :
    ContextKept x (x.count f) := by
  unfold Context.count
  split
  · rename_i counts
    refine ⟨rfl, rfl, rfl, rfl, id, fixed _, fun hf => ?_⟩
    subst hf
    nomatch counts
  · exact contextKept_refl x

section Kept

variable (s : State)

theorem count_kept (c : Ctx) (f : Summary → Summary) (fixed : ∀ m, (f m).fixed = m.fixed) :
    ExcKept s.exc (s.count c f).exc :=
  excKept_setCtx (contextKept_count _ f fixed)

theorem countRefusal_kept (e : Nat) (k : VerdictCode) : ExcKept s.exc (s.countRefusal e k).exc := by
  unfold State.countRefusal
  split
  · exact count_kept s _ _ fun _ => rfl
  · exact excKept_refl _

theorem giveVerdict_kept (p : Fin 4) (e g r : Nat) (k : VerdictCode) : ExcKept s.exc (s.giveVerdict p e g r k).exc :=
  countRefusal_kept (s.changePort p _) e k

/-- A fold of operations whose every step keeps the contexts keeps them. -/
theorem foldl_kept {α : Type} (f : State → α → State) (h : ∀ s a, ExcKept s.exc (f s a).exc) (l : List α) (s : State) :
    ExcKept s.exc (l.foldl f s).exc := by
  induction l generalizing s with
  | nil => exact excKept_refl _
  | cons a l ih => exact excKept_trans (h s a) (ih (f s a))

theorem breakStrip_kept (p : Fin 4) (b : Fin 2) (u : Strip) (k : VerdictCode) : ExcKept s.exc (s.breakStrip p b u k).exc := by
  simp only [State.breakStrip, brokenReport_frame, freeBuffer_exc]
  exact giveVerdict_kept s p _ _ _ k

theorem abandon_kept (p : Fin 4) (b : Fin 2) (k : VerdictCode) : ExcKept s.exc (s.abandon p b k).exc := by
  simp only [State.abandon]
  split
  · split
    all_goals exact giveVerdict_kept s p _ _ _ k
  · exact excKept_refl _

theorem abandonWhere_kept (chosen : Strip → Bool) (k : VerdictCode) : ExcKept s.exc (s.abandonWhere chosen k).exc := by
  refine foldl_kept _ (fun s p => foldl_kept _ (fun s b => ?_) _ s) _ s
  split
  · exact abandon_kept s p b k
  · exact excKept_refl _

theorem matchWatch_kept (c : Ctx) (n : Nat) (h : FirstHit) (w : Fin 8) : ExcKept s.exc (s.matchWatch c n h w).exc := by
  simp only [State.matchWatch]
  split
  all_goals exact excKept_setCtx (contextKept_count _ _ fun _ => rfl)

theorem report_kept (test : WatchSetting → Bool) (c : Ctx) (n : Nat) (h : FirstHit) :
    ExcKept s.exc (s.report test c n h).exc := by
  refine foldl_kept _ (fun s w => ?_) _ s
  split
  · exact matchWatch_kept s c n h w
  · exact excKept_refl _

theorem queueSlot_kept (n : Nat) (k : Completeness) : ExcKept s.exc (s.queueSlot n k).exc := by
  simp only [State.queueSlot]
  split
  · exact excKept_refl _
  · refine excKept_trans ?_ (report_kept _ _ _ _ _)
    exact excKept_refl _

theorem queueNext_kept (n : Nat) (k : Completeness) : ExcKept s.exc (s.queueNext n k).exc := by
  have beside : s.betweenSlots.exc = s.exc := by simp
  exact beside ▸ queueSlot_kept s.betweenSlots n k

theorem checkSlot_kept (n : Nat) : ExcKept s.exc (s.checkSlot n).exc := by
  simp only [State.checkSlot]
  split
  · exact excKept_refl _
  · split
    · split
      · exact excKept_refl _
      · exact queueNext_kept s n _
    · exact excKept_refl _

theorem checkSlots_kept (which : Slot → Bool) : ExcKept s.exc (s.checkSlots which).exc :=
  foldl_kept _ checkSlot_kept _ s

theorem closeSlot_kept (n : Nat) : ExcKept s.exc (s.closeSlot n).exc := by
  simp only [State.closeSlot]
  split
  · exact excKept_refl _
  · exact queueNext_kept s n _

theorem forcedClose_kept (c : Ctx) : ExcKept s.exc (s.forcedClose c).exc := foldl_kept _ closeSlot_kept _ s

theorem spill_kept (k : Nat) : ExcKept s.exc (State.spill k s).exc := by
  induction k generalizing s with
  | zero => exact excKept_refl _
  | succ k ih =>
    simp only [State.spill]
    split
    · exact excKept_refl _
    · rename_i n _
      exact excKept_trans (queueSlot_kept s n .forced)
        (ih (((s.queueSlot n .forced).raise .spill).changeCommit fun m => { m with victims := m.victims ++ [n] }))

theorem attempt_kept : ExcKept s.exc s.attempt.exc := by
  simp only [State.attempt, State.giveMore, State.giveFree]
  repeat' split
  all_goals first | exact spill_kept s _ | exact excKept_of_eq (by simp)

theorem freeSlot_kept (n : Nat) : ExcKept s.exc (s.freeSlot n).exc :=
  attempt_kept ({ s with ctb.slots := s.ctb.slots.remove n }.changeCommit fun k =>
    { k with victims := k.victims.filter fun i => i != n })

theorem reserved_kept : ExcKept s.exc s.reserved.exc := by
  simp only [State.reserved]
  split
  · exact excKept_refl _
  · split
    · exact excKept_refl _
    · refine excKept_trans ?_ (attempt_kept _)
      exact excKept_refl _

theorem ask_kept (cells : List CellIndex) : ExcKept s.exc (State.ask cells s).exc := by
  induction cells generalizing s with
  | nil => exact reserved_kept s
  | cons cell rest ih =>
    simp only [State.ask]
    split
    · exact excKept_refl _
    · split
      · refine excKept_trans ?_ (ih _)
        exact excKept_refl _
      · split
        · exact excKept_of_eq (by simp)
        · refine excKept_trans ?_ (ih _)
          exact excKept_refl _

theorem openingDone_kept (k : Commit) (n : Nat) : ExcKept s.exc (s.openingDone k n).exc := by
  simp only [State.openingDone]
  split
  · refine excKept_trans ?_ (ask_kept _ _)
    exact excKept_refl _
  · refine excKept_trans ?_ (attempt_kept _)
    exact excKept_refl _

theorem placeDefect_kept (k : Commit) (slot : Option Nat) : ExcKept s.exc (s.placeDefect k slot).exc := by
  simp only [State.placeDefect]
  split
  all_goals exact count_kept s _ _ fun _ => rfl

theorem placeSaturated_kept (k : Commit) (xy : Option (Nat × Nat)) (slot : Option Nat) :
    ExcKept s.exc (s.placeSaturated k xy slot).exc := by
  have counted : ExcKept s.exc (s.count k.ctx fun m => { m with saturated := countUp m.saturated }).exc :=
    count_kept s _ _ fun _ => rfl
  simp only [State.placeSaturated]
  split
  · refine excKept_trans ?_ (report_kept _ _ _ _ _)
    exact counted
  · exact counted

theorem placeCrowded_kept (k : Commit) (n : Nat) : ExcKept s.exc (s.placeCrowded k n).exc :=
  count_kept s k.ctx (fun m => { m with crowded := countUp m.crowded }) fun _ => rfl

theorem placeAccepted_kept (k : Commit) (v : Version) (x : Int) (xy : Nat × Nat) (n : Nat) :
    ExcKept s.exc (s.placeAccepted k v x xy n).exc := by
  simp only [State.placeAccepted]
  refine excKept_trans ?_ (report_kept _ _ _ _ _)
  exact count_kept s k.ctx (fun m => { m with pixels := countUp m.pixels }) fun _ => rfl

theorem placeOnGrid_kept (k : Commit) (v : Version) (xy : Nat × Nat) (n : Nat) (found : Option MemoryError) :
    ExcKept s.exc (s.placeOnGrid k v xy n found).exc := by
  have accumulated (u : State) (x : Int) : ExcKept u.exc (if
      Config.weightMax < (Memory.read u.ctb.memory (skyAddress n (positionOf xy))).weight + v.weight then
      u.placeCrowded k n else u.placeAccepted k v x xy n).exc := by
    split
    · exact placeCrowded_kept u k n
    · exact placeAccepted_kept u k v x xy n
  simp only [State.placeOnGrid, State.accumulate]
  split
  · cases found with
    | none => exact accumulated s _
    | some e =>
      exact excKept_trans (excKept_of_eq (memoryError_frame s n (positionOf xy) e).2.2.1) (accumulated _ _)
  · exact placeCrowded_kept s k n

theorem placePixel_kept (k : Commit) (v : Version) (found : Option MemoryError) :
    ExcKept s.exc (s.placePixel k v found).exc := by
  simp only [State.placePixel]
  split
  · exact placeDefect_kept s k _
  · split
    · exact placeSaturated_kept s k _ _
    · split
      · exact placeOnGrid_kept s k v _ _ found
      · exact excKept_refl _
      · exact count_kept s k.ctx (fun m => { m with offGrid := countUp m.offGrid }) fun _ => rfl

theorem contextKept_advance (x : Context) (seg row : Nat) : ContextKept x (x.advance seg row) := by
  refine ⟨rfl, rfl, rfl, ?_, id, rfl, fun hf => by subst hf; rfl⟩
  simp only [Context.advance, List.map_map]
  refine List.map_congr_left fun r _ => ?_
  simp only [Function.comp_apply]
  split <;> rfl

theorem contextKept_withdraw (x : Context) (segs : List Nat) : ContextKept x (x.withdraw segs) := by
  unfold Context.withdraw
  split
  · rename_i open_
    refine ⟨rfl, rfl, rfl, ?_, id, rfl, fun hf => ?_⟩
    · simp only [List.map_map]
      refine List.map_congr_left fun r _ => ?_
      simp only [Function.comp_apply]
      split <;> rfl
    · subst hf
      nomatch open_
  · exact contextKept_refl x

theorem advanceProgress_kept (k : Commit) : ExcKept s.exc (s.advanceProgress k).exc := by
  have advanced : ExcKept s.exc (s.changeCtx k.ctx fun x => x.advance k.seg k.row).exc :=
    excKept_setCtx (contextKept_advance _ _ _)
  simp only [State.advanceProgress]
  split
  · split
    · exact excKept_trans advanced (count_kept _ _ _ fun _ => rfl)
    · exact advanced
  · exact advanced

theorem advanceCells_kept (k : Commit) : ExcKept s.exc (s.advanceCells k).exc := by
  simp only [State.advanceCells, unpin_frame, touchRow_frame]
  refine excKept_trans ?_ (checkSlots_kept _ _)
  exact excKept_refl _

theorem acceptStrip_kept (k : Commit) : ExcKept s.exc (s.acceptStrip k).exc :=
  giveVerdict_kept (s.freeBuffer k.port k.buffer) _ _ _ _ _

theorem breakReceiving_kept (p : Fin 4) : ExcKept s.exc (s.breakReceiving p).exc := by
  simp only [State.breakReceiving]
  split
  · exact breakStrip_kept s p _ _ _
  · exact excKept_refl _

theorem takeRow_kept (p : Fin 4) (words : List Word) : ExcKept s.exc (s.takeRow p words).exc := by
  simp only [State.takeRow]
  split
  · exact excKept_refl _
  · split
    · exact breakReceiving_kept s p
    · split
      · exact excKept_refl _
      · exact breakReceiving_kept s p

theorem endStrip_kept (p : Fin 4) (b : Fin 2) (u : Strip) (crc : Word) : ExcKept s.exc (s.endStrip p b u crc).exc := by
  simp only [State.endStrip]
  repeat' split
  · exact breakStrip_kept s p b u _
  · exact breakStrip_kept s p b u _
  · exact excKept_refl _

theorem takeEnd_kept (p : Fin 4) (crc : Word) : ExcKept s.exc (s.takeEnd p crc).exc := by
  simp only [State.takeEnd, arbitrate_frame, changePort_exc]
  split
  · exact endStrip_kept s p _ _ crc
  · exact excKept_refl _

theorem takeHeader_kept (p : Fin 4) (h : Header) (words : List Word) : ExcKept s.exc (s.takeHeader p h words).exc := by
  have checked (u : State) (ended : Option (Fin 2 × Strip)) : ExcKept u.exc (match u.checkHeader p h with
      | .error code => u.refuseHeader p h code
      | .ok (c, v) => u.acceptHeader p ((u.port p).bufferFor ended) (h.strip c v words)).exc := by
    split
    · exact giveVerdict_kept u p _ _ _ _
    · exact excKept_of_eq (by simp)
  simp only [State.takeHeader]
  cases (s.port p).receiving? with
  | none =>
    refine excKept_trans ?_ (checked _ none)
    exact excKept_refl _
  | some e => exact excKept_trans (breakStrip_kept (s.changePort p _) p _ _ _) (checked _ (some e))

end Kept

end Sys2Proof.Proofs

/-! ## Proofs: what leaves the catalogue's entries in their states (chapter 1)

Markers, broken counts and suspect flags are no part of the catalogue's invariant; said once, by one relation. -/

namespace Sys2Proof.Proofs

open Sys2Proof Sys2Proof.Machine Sys2Proof.Laws

/-- The second entry differs from the first in its suspect flag, broken count and marker alone. -/
structure EntryKept (e e' : Entry) : Prop where
  seg : e'.seg = e.seg
  state : e'.state = e.state
  installed : e'.installed = e.installed
  staged : e'.staged = e.staged
  member : e'.member = e.member

/-- The second catalogue has the first's entries, each kept, its epoch and its batch, and the status of its walk. -/
def CatKept (c c' : Cat) : Prop :=
  (∃ g : Entry → Entry, (∀ e, EntryKept e (g e)) ∧ c'.entries = c.entries.map fun e => (e.1, g e.2)) ∧
  c'.epoch = c.epoch ∧ c'.batch = c.batch ∧ c'.sign.status = c.sign.status

theorem entryKept_refl (e : Entry) : EntryKept e e := ⟨rfl, rfl, rfl, rfl, rfl⟩

theorem catKept_refl (c : Cat) : CatKept c c := ⟨⟨id, entryKept_refl, by simp⟩, rfl, rfl, rfl⟩

theorem catKept_of_eq {c c' : Cat} (h : c' = c) : CatKept c c' := h ▸ catKept_refl c

theorem catKept_trans {a b c : Cat} (h : CatKept a b) (h' : CatKept b c) : CatKept a c := by
  obtain ⟨⟨g, keeps, entries⟩, epoch, batch, sign⟩ := h
  obtain ⟨⟨g', keeps', entries'⟩, epoch', batch', sign'⟩ := h'
  refine ⟨⟨g' ∘ g, fun e => ?_, ?_⟩, epoch'.trans epoch, batch'.trans batch, sign'.trans sign⟩
  · exact ⟨(keeps' _).seg.trans (keeps e).seg, (keeps' _).state.trans (keeps e).state,
      (keeps' _).installed.trans (keeps e).installed, (keeps' _).staged.trans (keeps e).staged,
      (keeps' _).member.trans (keeps e).member⟩
  · rw [entries', entries, List.map_map]
    rfl

theorem catKept_mapEntries (c : Cat) (g : Entry → Entry) (keeps : ∀ e, EntryKept e (g e)) : CatKept c (c.mapEntries g) :=
  ⟨⟨g, keeps, rfl⟩, rfl, rfl, rfl⟩

theorem catKept_changeEntry (c : Cat) (seg : Nat) (g : Entry → Entry) (keeps : ∀ e, EntryKept e (g e)) :
    CatKept c (c.changeEntry seg g) := by
  refine catKept_mapEntries c _ fun e => ?_
  split
  · exact keeps e
  · exact entryKept_refl e

theorem clearMarker_kept (c : Cat) (p : Fin 4) (b : Fin 2) : CatKept c (c.clearMarker p b) := by
  refine catKept_mapEntries c _ fun e => ?_
  split
  · exact ⟨rfl, rfl, rfl, rfl, rfl⟩
  · exact entryKept_refl e

section Kept

variable (s : State)

theorem foldl_catKept {α : Type} (f : State → α → State) (h : ∀ s a, CatKept s.cat (f s a).cat) (l : List α) (s : State) :
    CatKept s.cat (l.foldl f s).cat := by
  induction l generalizing s with
  | nil => exact catKept_refl _
  | cons a l ih => exact catKept_trans (h s a) (ih (f s a))

theorem freeBuffer_catKept (p : Fin 4) (b : Fin 2) : CatKept s.cat (s.freeBuffer p b).cat := clearMarker_kept s.cat p b

theorem brokenReport_catKept (seg : Nat) : CatKept s.cat (s.brokenReport seg).cat := by
  have changed : CatKept s.cat (s.cat.changeEntry seg fun e =>
      { e with broken := e.brokenNext, suspect := e.suspect || e.becomesSuspect s.params.brokenLimit }) :=
    catKept_changeEntry _ _ _ fun _ => ⟨rfl, rfl, rfl, rfl, rfl⟩
  simp only [State.brokenReport]
  split
  · split <;> exact changed
  · exact changed

theorem breakStrip_catKept (p : Fin 4) (b : Fin 2) (u : Strip) (k : VerdictCode) :
    CatKept s.cat (s.breakStrip p b u k).cat := by
  have freed := freeBuffer_catKept (s.giveVerdict p u.exposure u.seg u.first k) p b
  rw [(giveVerdict_frame s p u.exposure u.seg u.first k).2.1] at freed
  exact catKept_trans freed (brokenReport_catKept _ _)

theorem abandon_catKept (p : Fin 4) (b : Fin 2) (k : VerdictCode) : CatKept s.cat (s.abandon p b k).cat := by
  simp only [State.abandon]
  split
  · rename_i u _
    have freed := freeBuffer_catKept (s.giveVerdict p u.exposure u.seg u.first k) p b
    rw [(giveVerdict_frame s p u.exposure u.seg u.first k).2.1] at freed
    split <;> exact freed
  · exact catKept_refl _

theorem abandonWhere_catKept (chosen : Strip → Bool) (k : VerdictCode) : CatKept s.cat (s.abandonWhere chosen k).cat := by
  refine foldl_catKept _ (fun s p => foldl_catKept _ (fun s b => ?_) _ s) _ s
  split
  · exact abandon_catKept s p b k
  · exact catKept_refl _

theorem beginEnd_catKept (c : Ctx) (k : EndCause) : CatKept s.cat (s.beginEnd c k).cat :=
  abandonWhere_catKept (s.changeCtx c _) _ _

theorem naturalEnd_catKept (c : Ctx) : CatKept s.cat (s.naturalEnd c).cat := by
  simp only [State.naturalEnd]
  split
  · exact beginEnd_catKept s c _
  · exact catKept_refl _

theorem closeContext_catKept (c : Ctx) : CatKept s.cat (s.closeContext c).cat := naturalEnd_catKept (s.changeCtx c _) c

theorem takeClosing_catKept : CatKept s.cat s.takeClosing.cat := by
  simp only [State.takeClosing]
  split
  · exact closeContext_catKept s _
  · exact catKept_refl _

theorem serveClosing_catKept : CatKept s.cat s.serveClosing.cat := by
  simp only [State.serveClosing]
  split
  · refine catKept_trans ?_ (takeClosing_catKept _)
    exact catKept_refl _
  · exact catKept_refl _

theorem serveLatch_catKept : CatKept s.cat s.serveLatch.cat := by
  simp only [State.serveLatch]
  split
  · exact catKept_refl _
  · split
    · refine catKept_trans (catKept_of_eq ?_) (serveClosing_catKept _)
      simp
    · exact serveClosing_catKept s

theorem goDown_catKept (p : Fin 4) : CatKept s.cat (s.goDown p).cat := by
  simp only [State.goDown, raise_cat, changePort_cat]
  exact foldl_catKept _ (fun s b => freeBuffer_catKept s p b) _ s

theorem followLink_catKept (p : Fin 4) : CatKept s.cat (s.followLink p).cat := by
  simp only [State.followLink]
  split
  · exact goDown_catKept s p
  · exact catKept_of_eq (by simp)

theorem breakReceiving_catKept (p : Fin 4) : CatKept s.cat (s.breakReceiving p).cat := by
  simp only [State.breakReceiving]
  split
  · exact breakStrip_catKept s p _ _ _
  · exact catKept_refl _

theorem takeRow_catKept (p : Fin 4) (words : List Word) : CatKept s.cat (s.takeRow p words).cat := by
  simp only [State.takeRow]
  split
  · exact catKept_refl _
  · split
    · exact breakReceiving_catKept s p
    · split
      · exact catKept_refl _
      · exact breakReceiving_catKept s p

theorem takeEnd_catKept (p : Fin 4) (crc : Word) : CatKept s.cat (s.takeEnd p crc).cat := by
  simp only [State.takeEnd, arbitrate_frame, changePort_cat, State.endStrip]
  repeat' split
  · exact breakStrip_catKept s p _ _ _
  · exact breakStrip_catKept s p _ _ _
  · exact catKept_refl _
  · exact catKept_refl _

theorem acceptHeader_catKept (p : Fin 4) (b : Fin 2) (u : Strip) : CatKept s.cat (s.acceptHeader p b u).cat :=
  catKept_changeEntry _ _ _ fun _ => ⟨rfl, rfl, rfl, rfl, rfl⟩

theorem takeHeader_catKept (p : Fin 4) (h : Header) (words : List Word) : CatKept s.cat (s.takeHeader p h words).cat := by
  have checked (u : State) (ended : Option (Fin 2 × Strip)) : CatKept u.cat (match u.checkHeader p h with
      | .error code => u.refuseHeader p h code
      | .ok (c, v) => u.acceptHeader p ((u.port p).bufferFor ended) (h.strip c v words)).cat := by
    split
    · exact catKept_of_eq (by simp)
    · exact acceptHeader_catKept u p _ _
  simp only [State.takeHeader]
  cases (s.port p).receiving? with
  | none =>
    refine catKept_trans ?_ (checked _ none)
    exact catKept_refl _
  | some e => exact catKept_trans (breakStrip_catKept (s.changePort p _) p _ _ _) (checked _ (some e))

theorem acceptStrip_catKept (k : Commit) : CatKept s.cat (s.acceptStrip k).cat := by
  refine catKept_trans (freeBuffer_catKept s k.port k.buffer) ?_
  simp only [State.acceptStrip, giveVerdict_frame]
  exact catKept_changeEntry _ _ _ fun _ => ⟨rfl, rfl, rfl, rfl, rfl⟩

theorem completeCommit_catKept (k : Commit) : CatKept s.cat (s.completeCommit k).cat := by
  simp only [State.completeCommit, arbitrate_frame]
  refine catKept_trans ?_ (naturalEnd_catKept _ _)
  exact acceptStrip_catKept s k

theorem disturb_kept (c : Cat) (segs : List Nat) : CatKept c (c.disturb segs) := by
  refine ⟨⟨id, entryKept_refl, ?_⟩, ?_, ?_, disturb_signStatus c segs⟩
  all_goals
    simp only [Cat.disturb]
    split <;> simp

end Kept

end Sys2Proof.Proofs

/-! ## Proofs: the invariant of exposure control (chapter 3)

The invariant as a statement of the contexts, the trailers, the long request and the status of the walk; then what each
kind of change asks for, and with them the commands. -/

namespace Sys2Proof.Proofs

open Sys2Proof Sys2Proof.Machine Sys2Proof.Laws

/-- A long request of a kind runs. -/
def runs (long : Option LongRequest) (k : LongKind) : Bool := long.any fun l => l.kind == k

/-- The invariant of exposure control, by what it speaks of: exposure control, the number of each context's trailers, the
long request and the status of the signature walk. -/
structure ExposureOk (x : Exc) (trailers : Ctx → Nat) (long : Option LongRequest) (sign : SignStatus) : Prop where
  context : ∀ c, (x.ctx c).consistent
  trailer : ∀ c, trailers c = if (x.ctx c).state = .closing then 1 else 0
  exposing : ∀ c, (x.ctx c).state = .exposing → (x.ctx (otherCtx c)).state ≠ .exposing
  number : ∀ c, (x.ctx c).state ≠ .free → (x.ctx (otherCtx c)).state ≠ .free →
    (x.ctx c).number ≠ (x.ctx (otherCtx c)).number
  opening : ∀ o, x.opening = some o → (x.ctx o.ctx).state = .free ∧ (x.ctx (otherCtx o.ctx)).state ≠ .exposing ∧
    ((x.ctx (otherCtx o.ctx)).state ≠ .free → (x.ctx (otherCtx o.ctx)).number ≠ o.number)
  commit : runs long .commit = true → (∀ c, (x.ctx c).isOpen = false) ∧ x.opening = none
  flush : x.flushing = true → runs long .flush = true ∧ x.opening = none
  walk : sign = .running → runs long .signCatalogue = true

theorem forall_ctx {p : Ctx → Prop} : (∀ c, p c) ↔ p .A ∧ p .B :=
  ⟨fun h => ⟨h .A, h .B⟩, fun ⟨a, b⟩ c => by cases c <;> assumption⟩

theorem exposureConsistent_iff (s : State) :
    s.exposureConsistent ↔ ExposureOk s.exc s.trailersOf s.cmd.long s.cat.sign.status := by
  constructor
  · rintro ⟨context, exposing, number, opening, commit, flush, walk⟩
    refine ⟨fun c => (context c).1, fun c => (context c).2, ?_, ?_, opening, fun h => ?_, flush, walk⟩
    · exact forall_ctx.2 ⟨exposing, fun hb ha => exposing ha hb⟩
    · exact forall_ctx.2 ⟨number, fun hb ha => (number ha hb).symm⟩
    · obtain ⟨a, b, none_⟩ := commit h
      exact ⟨forall_ctx.2 ⟨a, b⟩, none_⟩
  · rintro ⟨context, trailer, exposing, number, opening, commit, flush, walk⟩
    refine ⟨fun c => ⟨context c, trailer c⟩, exposing .A, number .A, opening, fun h => ?_, flush, walk⟩
    obtain ⟨shut, none_⟩ := commit h
    exact ⟨shut .A, shut .B, none_⟩

theorem isOpen_eq (x : Context) : x.isOpen = (x.state == .exposing || x.state == .gathering || x.state == .closing) := by
  unfold Context.isOpen
  cases x.state <;> rfl

/-- Only one long request runs. -/
theorem runs_unique {long : Option LongRequest} {k k' : LongKind} (h : runs long k = true) (h' : runs long k' = true) :
    k = k' := by
  cases long with
  | none => nomatch h
  | some l =>
    simp only [runs, Option.any_some, beq_iff_eq] at h h'
    exact h.symm.trans h'

theorem contextConsistent_kept {x y : Context} (kept : ContextKept x y) (h : x.consistent) : y.consistent := by
  obtain ⟨free, exposing, ended, timer, ascending, fixed⟩ := h
  refine ⟨fun hf => kept.free (free (kept.state ▸ hf)) , fun he => ?_, fun hc => ?_, fun ht => ?_, ?_, ?_⟩
  · rw [kept.endCause]
    exact exposing (kept.state ▸ he)
  · rw [kept.endCause]
    exact ended (kept.state ▸ hc)
  · rw [kept.state, kept.endCause]
    exact timer (kept.timer ht)
  · rw [kept.segs]
    exact ascending
  · rw [kept.fixed]
    exact fixed

section ExposureOk

variable {x y : Exc} {trailers trailers' : Ctx → Nat} {long long' : Option LongRequest} {sign sign' : SignStatus}

theorem exposureOk_kept (kept : ExcKept x y) (ok : ExposureOk x trailers long sign) : ExposureOk y trailers long sign := by
  have state (c : Ctx) : (y.ctx c).state = (x.ctx c).state := (kept.ctx c).state
  have number (c : Ctx) : (y.ctx c).number = (x.ctx c).number := (kept.ctx c).number
  refine ⟨fun c => contextConsistent_kept (kept.ctx c) (ok.context c), ?_, ?_, ?_, ?_, fun h => ?_, ?_, ok.walk⟩
  · simpa only [state] using ok.trailer
  · simpa only [state] using ok.exposing
  · simpa only [state, number] using ok.number
  · simpa only [state, number, kept.opening] using ok.opening
  · simpa only [isOpen_eq, state, kept.opening] using ok.commit h
  · simpa only [kept.flushing, kept.opening] using ok.flush

/-- One context changes: it stays in what the other context and an opening rely on. -/
theorem exposureOk_setCtx {c : Ctx} {k : Context} (ok : ExposureOk x trailers long sign) (context : k.consistent)
    (others : ∀ d, d ≠ c → trailers' d = trailers d) (own : trailers' c = if k.state = .closing then 1 else 0)
    (exposing : k.state = .exposing → (x.ctx c).state = .exposing)
    (number : k.state ≠ .free → (x.ctx c).state ≠ .free ∧ k.number = (x.ctx c).number)
    (open_ : k.isOpen = true → (x.ctx c).isOpen = true) : ExposureOk (x.setCtx c k) trailers' long sign := by
  have cases_ctx (d : Ctx) : d = c ∨ d = otherCtx c := by cases c <;> cases d <;> simp [otherCtx]
  have other_ne : otherCtx c ≠ c := by cases c <;> decide
  have other_other : otherCtx (otherCtx c) = c := by cases c <;> rfl
  refine ⟨fun d => ?_, fun d => ?_, fun d => ?_, fun d => ?_, fun o ho => ?_, fun h => ?_, ?_, ok.walk⟩
  · rcases cases_ctx d with rfl | rfl
    · simpa using context
    · simpa using ok.context _
  · rcases cases_ctx d with rfl | rfl
    · simpa using own
    · rw [others _ other_ne, ctx_setCtx_other, ok.trailer]
  · rcases cases_ctx d with rfl | rfl
    · simpa using fun h => ok.exposing d (exposing h)
    · simpa [other_other] using fun h h' => ok.exposing c (exposing h') h
  · rcases cases_ctx d with rfl | rfl
    · simpa using fun h h' => (number h).2 ▸ ok.number d (number h).1 h'
    · simpa [other_other] using fun h h' => ((number h').2 ▸ (ok.number c (number h').1 h).symm)
  · obtain ⟨free, shut, differ⟩ := ok.opening o (setCtx_opening x c k ▸ ho)
    rcases cases_ctx o.ctx with hc | hc
    · subst hc
      have stays : k.state = .free := by
        by_contra h
        exact (number h).1 free
      simpa [stays] using ⟨shut, differ⟩
    · have hc' : otherCtx o.ctx = c := by rw [hc, other_other]
      rw [hc'] at shut differ ⊢
      rw [ctx_setCtx_self, hc, ctx_setCtx_other]
      refine ⟨hc ▸ free, fun h => shut (exposing h), fun h => ?_⟩
      rw [(number h).2]
      exact differ (number h).1
  · obtain ⟨shut, none_⟩ := ok.commit h
    refine ⟨fun d => ?_, by simpa using none_⟩
    rcases cases_ctx d with rfl | rfl
    · by_contra hk
      rw [ctx_setCtx_self, Bool.not_eq_false] at hk
      exact absurd (open_ hk) (by simp [shut])
    · simpa using shut _
  · simpa using ok.flush

/-- The long request ends, with what belongs to it. -/
theorem exposureOk_done (ok : ExposureOk x trailers long sign) (flushing : x.flushing = false) (sign : sign' ≠ .running) :
    ExposureOk x trailers none sign' :=
  ⟨ok.context, ok.trailer, ok.exposing, ok.number, ok.opening, fun h => (nomatch h),
    fun h => (Bool.false_ne_true (flushing.symm.trans h)).elim, fun h => absurd h sign⟩

end ExposureOk

/-! ### States -/

/-- What exposure control relies on besides the contexts: trailers, long request, walk. -/
structure SameSide (s t : State) : Prop where
  trailers : ∀ c, t.trailersOf c = s.trailersOf c
  long : t.cmd.long = s.cmd.long
  sign : t.cat.sign.status = s.cat.sign.status

theorem exposureConsistent_of_kept {s t : State} (side : SameSide s t) (kept : ExcKept s.exc t.exc)
    (h : s.exposureConsistent) : t.exposureConsistent := by
  rw [exposureConsistent_iff] at h ⊢
  rw [show t.trailersOf = s.trailersOf from funext side.trailers, side.long, side.sign]
  exact exposureOk_kept kept h

theorem trailersOf_congr {s t : State} (queue : ∀ c, t.ctb.queue.count (.trailer c) = s.ctb.queue.count (.trailer c))
    (port : t.cop.state = s.cop.state) (c : Ctx) : t.trailersOf c = s.trailersOf c := by
  rw [State.trailersOf, State.trailersOf, queue, port]

theorem sameSide_of_moves {s t : State} (cells : CellMoves s.ctb t.ctb) (port : t.cop.state = s.cop.state)
    (long : t.cmd.long = s.cmd.long) (sign : t.cat.sign.status = s.cat.sign.status) : SameSide s t :=
  ⟨trailersOf_congr (cellMoves_trailers cells) port, long, sign⟩

theorem exposureConsistent_ignoresReply : IgnoresReply State.exposureConsistent := fun _ _ _ _ h => h

/-! ### The end of gathering, closings and trailers -/

theorem beginEnd_exposureConsistent {s : State} {c : Ctx} (k : EndCause) (gathers : (s.ctx c).gathers = true)
    (h : s.exposureConsistent) : (s.beginEnd c k).exposureConsistent := by
  simp only [Context.gathers, Bool.and_eq_true, beq_iff_eq, Option.isNone_iff_eq_none] at gathers
  obtain ⟨gathering, -⟩ := gathers
  have ok := (exposureConsistent_iff s).1 h
  have ended : State.exposureConsistent (s.changeCtx c fun x => { x with endCause := some k, timer := none }) := by
    obtain ⟨free, exposing, done, timer, ascending, fixed⟩ := ok.context c
    change (s.exc.ctx c).state = .gathering at gathering
    refine (exposureConsistent_iff _).2 (exposureOk_setCtx ok ?_ (fun _ _ => rfl) (ok.trailer c) ?_ (fun hf => ⟨hf, rfl⟩) ?_)
    · refine ⟨fun hf => ?_, fun he => ?_, fun _ => Option.some_ne_none _, fun ht => absurd rfl ht, ascending, fixed⟩
      · exact absurd (gathering.symm.trans hf) (by decide)
      · exact absurd (gathering.symm.trans he) (by decide)
    · exact id
    · exact id
  refine exposureConsistent_of_kept ⟨trailersOf_congr ?_ ?_, ?_, ?_⟩ (abandonWhere_kept _ _ _) ended
  · simp
  · simp
  · simp
  · exact (abandonWhere_catKept _ _ _).2.2.2

theorem naturalEnd_exposureConsistent {s : State} (c : Ctx) (h : s.exposureConsistent) :
    (s.naturalEnd c).exposureConsistent := by
  simp only [State.naturalEnd]
  split
  · rename_i ends
    exact beginEnd_exposureConsistent _ ends.1 h
  · exact h

theorem exposing_eq_some {x : Exc} {c : Ctx} (h : x.exposing = some c) : (x.ctx c).state = .exposing := by
  simp only [Exc.exposing] at h
  split at h
  · obtain rfl := Option.some.inj h
    assumption
  · split at h
    · obtain rfl := Option.some.inj h
      assumption
    · nomatch h

theorem exposing_eq_none {x : Exc} (h : x.exposing = none) (c : Ctx) : (x.ctx c).state ≠ .exposing := by
  simp only [Exc.exposing] at h
  split at h
  · nomatch h
  · split at h
    · nomatch h
    · cases c <;> assumption

theorem closeContext_exposureConsistent {s : State} {c : Ctx} (exposing : (s.exc.ctx c).state = .exposing)
    (h : s.exposureConsistent) : (s.closeContext c).exposureConsistent := by
  have ok := (exposureConsistent_iff s).1 h
  refine naturalEnd_exposureConsistent c ((exposureConsistent_iff _).2 ?_)
  obtain ⟨-, unended, -, -, ascending, fixed⟩ := ok.context c
  have own := ok.trailer c
  rw [exposing] at own
  refine exposureOk_setCtx ok ?_ (fun _ _ => rfl) own (fun he => nomatch he) (fun _ => ⟨by rw [exposing]; decide, rfl⟩) ?_
  · exact ⟨fun hf => (nomatch hf), fun he => (nomatch he), fun hc => (nomatch hc), fun _ => ⟨rfl, unended exposing⟩, ascending,
      fixed⟩
  · exact fun _ => by rw [isOpen_eq, exposing]; rfl

theorem takeClosing_exposureConsistent {s : State} (h : s.exposureConsistent) : s.takeClosing.exposureConsistent := by
  simp only [State.takeClosing]
  split
  · rename_i c hc
    exact closeContext_exposureConsistent (exposing_eq_some hc) h
  · exact h

/-- An EXPOSING or gathering context enters CLOSING as its trailer joins the queue. -/
theorem exposureConsistent_trailerQueued {s t : State} {c : Ctx} {k : Context} (h : s.exposureConsistent)
    (exc : t.exc = s.exc.setCtx c k) (queue : t.ctb.queue = s.ctb.queue ++ [.trailer c]) (port : t.cop.state = s.cop.state)
    (long : t.cmd.long = s.cmd.long) (sign : t.cat.sign.status = s.cat.sign.status)
    (was : (s.exc.ctx c).state = .exposing ∨ (s.exc.ctx c).state = .gathering) (closing : k.state = .closing)
    (cause : k.endCause ≠ none) (stopped : k.timer = none) (number : k.number = (s.exc.ctx c).number)
    (progress : k.progress = (s.exc.ctx c).progress) (fixed : k.summary.fixed = (s.exc.ctx c).summary.fixed) :
    t.exposureConsistent := by
  have ok := (exposureConsistent_iff s).1 h
  obtain ⟨-, -, -, -, ascending, lists⟩ := ok.context c
  have notFree : (s.exc.ctx c).state ≠ .free := by rcases was with h | h <;> rw [h] <;> decide
  have notClosing : (s.exc.ctx c).state ≠ .closing := by rcases was with h | h <;> rw [h] <;> decide
  have trailers (d : Ctx) : t.trailersOf d = s.trailersOf d + if d = c then 1 else 0 := by
    rw [State.trailersOf, State.trailersOf, port, queue, List.count_append]
    have one : [QueueItem.trailer c].count (.trailer d) = if d = c then 1 else 0 := by
      cases c <;> cases d <;> rfl
    rw [one]
    omega
  rw [exposureConsistent_iff, exc, long, sign]
  refine exposureOk_setCtx ok ?_ (fun d hd => ?_) ?_ (fun he => ?_) (fun _ => ⟨notFree, number⟩) (fun _ => ?_)
  · refine ⟨fun hf => ?_, fun he => ?_, fun _ => cause, fun ht => absurd stopped ht, progress ▸ ascending, fixed ▸ lists⟩
    · exact absurd (closing.symm.trans hf) (by decide)
    · exact absurd (closing.symm.trans he) (by decide)
  · rw [trailers, if_neg hd, Nat.add_zero]
  · rw [trailers, ok.trailer, if_neg notClosing, if_pos rfl, if_pos closing]
  · exact absurd (closing.symm.trans he) (by decide)
  · rw [isOpen_eq]
    rcases was with h | h <;> rw [h] <;> rfl

/-! ### The head of the queue -/

/-- The lists of a summary are ascending, fixed or from the progress table. -/
theorem lists_ascending {s : State} {c : Ctx} (h : (s.ctx c).consistent) :
    (s.lists c).missing.Pairwise (· ≤ ·) ∧ (s.lists c).withdrawn.Pairwise (· ≤ ·) := by
  obtain ⟨-, -, -, -, ascending, fixed⟩ := h
  have part (p : Progress → Bool) : (((s.ctx c).progress.filter p).map fun r => r.seg).Pairwise (· ≤ ·) :=
    ascending.sublist (List.filter_sublist.map _)
  simp only [State.lists]
  split
  · exact fixed _ ‹_›
  · exact ⟨part _, part _⟩

theorem takeHead_exposureConsistent {s : State} (h : s.exposureConsistent) : s.takeHead.exposureConsistent := by
  have ok := (exposureConsistent_iff s).1 h
  simp only [State.takeHead]
  split
  case isFalse => exact h
  case isTrue idle =>
    obtain ⟨port, -, -⟩ := idle
    split
    · exact h
    · rename_i n rest head
      refine exposureConsistent_of_kept (s := s) ⟨fun c => ?_, rfl, rfl⟩ (excKept_refl _) h
      simp [State.trailersOf, head, port]
    · rename_i c rest head
      have own : s.trailersOf c ≠ 0 := by simp [State.trailersOf, head]
      have closing : (s.exc.ctx c).state = .closing := by
        by_contra hc
        exact own ((ok.trailer c).trans (if_neg hc))
      have trailers (d : Ctx) : State.trailersOf { s.fixSummary c with
          ctb := { s.ctb with queue := rest }
          cop := { (s.fixSummary c).cop with state := .sendingTrailer (s.trailerOf c) .atFirst } } d = s.trailersOf d := by
        simp only [State.trailersOf, head, port, List.count_cons, State.trailerOf]
        cases c <;> cases d <;> simp
      refine (exposureConsistent_iff _).2 ?_
      rw [funext trailers]
      obtain ⟨free, exposing, ended, timer, ascending, lists⟩ := ok.context c
      have notFree : (s.exc.ctx c).state ≠ .free := by rw [closing]; decide
      refine exposureOk_setCtx ok ?_ (fun _ _ => rfl) (ok.trailer c) id (fun hf => ⟨hf, rfl⟩) id
      refine ⟨fun hf => absurd hf notFree, exposing, ended, timer, ascending, fun l hl => ?_⟩
      obtain rfl := Option.some.inj hl
      exact lists_ascending (ok.context c)

/-! ### Openings and the latch -/

theorem openingBlocked_eq_false {s : State} (h : s.openingBlocked = false) :
    s.exc.opening = none ∧ s.running .commit = false ∧ s.applying = false ∧ s.running .flush = false := by
  simp only [State.openingBlocked, Bool.or_eq_false_iff, Option.isSome_eq_false_iff, Option.isNone_iff_eq_none] at h
  tauto

/-- The context an opening chooses, where nothing stands against the opening. -/
theorem chosen_of_openingBar {s : State} (h : s.openingBar = none) :
    (s.exc.ctx s.exc.chosen).state = .free ∧ (s.exc.ctx (otherCtx s.exc.chosen)).state ≠ .exposing ∧
      s.cat.epoch < Config.countMax := by
  simp only [State.openingBar] at h
  split at h
  · nomatch h
  · rename_i hexposing
    have unexposed := exposing_eq_none (Option.not_isSome_iff_eq_none.1 hexposing)
    split at h
    · nomatch h
    · rename_i hfree
      split at h
      · nomatch h
      · rename_i hepoch
        refine ⟨?_, unexposed _, Nat.lt_of_not_le hepoch⟩
        simp only [Exc.chosen]
        split
        · assumption
        · rename_i hA
          by_contra hB
          exact hfree ⟨hA, hB⟩

/-- The number an opening takes is not that of the other context (R49). -/
theorem openingNumber_ne {s : State} (other : (s.ctx (otherCtx s.exc.chosen)).state ≠ .free) :
    (s.ctx (otherCtx s.exc.chosen)).number ≠ s.openingNumber := by
  unfold State.openingNumber
  by_cases carries : (s.ctx (otherCtx s.exc.chosen)).number = s.params.nextExposure
  · rw [if_pos ⟨other, carries⟩]
    omega
  · rw [if_neg fun h => carries h.2]
    exact carries

theorem beginOpening_exposureConsistent {s : State} (blocked : s.openingBlocked = false) (bar : s.openingBar = none)
    (h : s.exposureConsistent) : s.beginOpening.exposureConsistent := by
  have ok := (exposureConsistent_iff s).1 h
  obtain ⟨-, noCommit, -, noFlush⟩ := openingBlocked_eq_false blocked
  obtain ⟨free, unexposed, -⟩ := chosen_of_openingBar bar
  refine (exposureConsistent_iff _).2
    ⟨ok.context, ok.trailer, ok.exposing, ok.number, fun o ho => ?_, fun hc => ?_, fun hf => ?_, ok.walk⟩
  · obtain rfl := Option.some.inj ho
    exact ⟨free, unexposed, openingNumber_ne (s := s)⟩
  · exact absurd hc (by simpa [State.running, runs] using noCommit)
  · exact absurd (ok.flush hf).1 (by simpa [State.running, runs] using noFlush)

theorem takeOpening_exposureConsistent {s : State} (blocked : s.openingBlocked = false) (h : s.exposureConsistent) :
    s.takeOpening.exposureConsistent := by
  simp only [State.takeOpening]
  split
  · exact h
  · exact h
  · exact h
  · exact beginOpening_exposureConsistent blocked ‹_› h

theorem serveClosing_exposureConsistent {s : State} (h : s.exposureConsistent) : s.serveClosing.exposureConsistent := by
  simp only [State.serveClosing]
  split
  · exact takeClosing_exposureConsistent (s := { s with exc.latch.closing := false }) h
  · exact h

theorem serveLatch_exposureConsistent {s : State} (h : s.exposureConsistent) : s.serveLatch.exposureConsistent := by
  simp only [State.serveLatch]
  split
  · exact h
  · rename_i blocked
    split
    · refine serveClosing_exposureConsistent (takeOpening_exposureConsistent ?_ ?_)
      · exact (Bool.eq_false_of_not_eq_true blocked : s.openingBlocked = false)
      · exact h
    · exact serveClosing_exposureConsistent h

theorem beginDueBatch_sign (s : State) : s.beginDueBatch.cat.sign = s.cat.sign := by
  simp only [State.beginDueBatch]
  split <;> rfl

theorem beginDueBatch_exposureConsistent {s : State} (h : s.exposureConsistent) : s.beginDueBatch.exposureConsistent := by
  refine exposureConsistent_of_kept ⟨trailersOf_congr ?_ ?_, ?_, ?_⟩ (excKept_of_eq ?_) h
  · simp
  · simp
  · simp
  · rw [beginDueBatch_sign]
  · simp

end Sys2Proof.Proofs

/-! ## Proofs: every step keeps the invariant of exposure control -/

namespace Sys2Proof.Proofs

open Sys2Proof Sys2Proof.Machine Sys2Proof.Laws

/-! ### Commands that only keep the contexts -/

/-- The second part keeps the contexts of the first, and what exposure control relies on besides. -/
def ExposureKept (s t : State) : Prop := SameSide s t ∧ ExcKept s.exc t.exc

theorem exposureKept_refl (s : State) : ExposureKept s s := ⟨⟨fun _ => rfl, rfl, rfl⟩, excKept_refl _⟩

theorem quiet_exposureKept {s t : State} (h : Quiet s t) : ExposureKept s t := by
  obtain ⟨_, _, m, rfl, long⟩ := h
  exact ⟨⟨fun _ => rfl, long, rfl⟩, excKept_refl _⟩

theorem catalogueOnly_exposureKept {s t : State} (h : CatalogueOnly s t) : ExposureKept s t := by
  obtain ⟨_, m, rfl, long, sign⟩ := h
  exact ⟨⟨fun _ => rfl, long, sign⟩, excKept_refl _⟩

theorem exposureConsistent_of_exposureKept {s t : State} (kept : ExposureKept s t) (h : s.exposureConsistent) :
    t.exposureConsistent := exposureConsistent_of_kept kept.1 kept.2 h

/-- An operation that leaves the queue and the port alone. -/
theorem exposureKept_of {s t : State} (exc : ExcKept s.exc t.exc) (ctb : t.ctb = s.ctb) (port : t.cop.state = s.cop.state)
    (long : t.cmd.long = s.cmd.long) (cat : CatKept s.cat t.cat) : ExposureKept s t :=
  ⟨⟨trailersOf_congr (fun c => by rw [ctb]) port, long, cat.2.2.2⟩, exc⟩

/-- An operation that moves the cells. -/
theorem exposureKept_of_moves {s t : State} (exc : ExcKept s.exc t.exc) (cells : CellMoves s.ctb t.ctb)
    (port : t.cop.state = s.cop.state) (long : t.cmd.long = s.cmd.long) (cat : t.cat = s.cat) : ExposureKept s t :=
  ⟨sameSide_of_moves cells port long (by rw [cat]), exc⟩

theorem takeHead_frame_port {s t : State} (h : ExposureKept s t) (hs : s.exposureConsistent) :
    t.takeHead.exposureConsistent := takeHead_exposureConsistent (exposureConsistent_of_exposureKept h hs)

/-! ### Requests -/

section Requests

variable {s : State}

theorem openExposure_exposureConsistent (h : s.exposureConsistent) : (State.openExposure s).1.exposureConsistent := by
  simp only [State.openExposure]
  split
  · exact h
  · rename_i unblocked
    split
    · exact h
    · exact h
    · exact h
    · exact beginOpening_exposureConsistent (by simpa using fun hb => unblocked (.inl hb)) ‹_› h

theorem closeShutter_exposureConsistent (h : s.exposureConsistent) : (State.closeShutter s).1.exposureConsistent := by
  simp only [State.closeShutter]
  split
  · exact h
  · split
    · rename_i c hc
      exact closeContext_exposureConsistent (exposing_eq_some hc) h
    · exact h

theorem endExposureOf_exposureConsistent (c : Ctx) (h : s.exposureConsistent) :
    (s.endExposureOf c).1.exposureConsistent := by
  have ok := (exposureConsistent_iff s).1 h
  simp only [State.endExposureOf]
  split
  · rename_i exposing
    have stopped : (s.ctx c).timer = none := by
      by_contra runs_
      obtain ⟨-, -, -, timer, -⟩ := ok.context c
      exact absurd (exposing.symm.trans (timer runs_).1) (by decide)
    refine takeHead_exposureConsistent ?_
    refine exposureConsistent_trailerQueued (k := { s.exc.ctx c with state := .closing, timer := none, endCause := some .ended })
      h ?_ rfl rfl rfl rfl (.inl exposing) rfl (Option.some_ne_none _) rfl rfl rfl rfl
    cases c <;> rfl
  · rename_i gathering
    split
    · refine beginEnd_exposureConsistent .ended ?_ h
      simp_all [Context.gathers]
    · exact h
  all_goals exact h

theorem endExposure_exposureConsistent (f : Frame) (h : s.exposureConsistent) :
    (State.endExposure f s).1.exposureConsistent := by
  simp only [State.endExposure]
  split
  · exact h
  · split
    · exact h
    · exact endExposureOf_exposureConsistent _ h

/-- A context that is not open, CLOSING or EXPOSING becomes FREE. -/
theorem contextFreed_exposureOk {x : Exc} {trailers : Ctx → Nat} {long : Option LongRequest} {sign : SignStatus} {c : Ctx}
    (ok : ExposureOk x trailers long sign) (own : trailers c = 0) : ExposureOk (x.setCtx c Context.free) trailers long sign :=
  exposureOk_setCtx ok contextFree_consistent (fun _ _ => rfl) own (fun h => nomatch h) (fun h => absurd rfl h)
    (fun h => nomatch h)

theorem releaseExposure_exposureConsistent (f : Frame) (h : s.exposureConsistent) :
    (State.releaseExposure f s).1.exposureConsistent := by
  have ok := (exposureConsistent_iff s).1 h
  simp only [State.releaseExposure]
  split
  · exact h
  · rename_i c _
    split
    · exact h
    · split
      · rename_i held
        refine (exposureConsistent_iff _).2 (contextFreed_exposureOk ok ?_)
        have own := ok.trailer c
        rw [show (s.exc.ctx c).state = .held from held] at own
        exact own
      · exact h

theorem long_none_of_busy (h : ¬s.cmd.long.isSome = true) : s.cmd.long = none := Option.not_isSome_iff_eq_none.1 h

theorem commitRequest_exposureConsistent (f : Frame) (h : s.exposureConsistent) :
    (State.commitRequest f s).1.exposureConsistent := by
  have ok := (exposureConsistent_iff s).1 h
  simp only [State.commitRequest]
  split
  · exact h
  · rename_i idle
    have none_ := long_none_of_busy idle
    split
    · exact h
    · rename_i shut
      split
      · exact h
      · rw [none_] at ok
        refine (exposureConsistent_iff _).2 ⟨ok.context, ok.trailer, ok.exposing, ok.number, ok.opening, fun _ => ?_,
          fun hf => (nomatch (ok.flush hf).1), fun hw => (nomatch ok.walk hw)⟩
        simp only [not_or, Bool.not_eq_true, Option.isSome_eq_false_iff, Option.isNone_iff_eq_none] at shut
        exact ⟨forall_ctx.2 ⟨shut.1, shut.2.1⟩, shut.2.2⟩

theorem signRequest_exposureConsistent (f : Frame) (h : s.exposureConsistent) :
    (State.signRequest f s).1.exposureConsistent := by
  have ok := (exposureConsistent_iff s).1 h
  simp only [State.signRequest]
  split
  · exact h
  · rename_i idle
    rw [long_none_of_busy idle] at ok
    exact (exposureConsistent_iff _).2 ⟨ok.context, ok.trailer, ok.exposing, ok.number, ok.opening, fun hc => (nomatch hc),
      fun hf => (nomatch (ok.flush hf).1), fun _ => rfl⟩

theorem flushRequest_exposureConsistent (f : Frame) (h : s.exposureConsistent) :
    (State.flushRequest f s).1.exposureConsistent := by
  have ok := (exposureConsistent_iff s).1 h
  simp only [State.flushRequest]
  split
  · exact h
  · rename_i idle
    rw [long_none_of_busy idle] at ok
    exact (exposureConsistent_iff _).2 ⟨ok.context, ok.trailer, ok.exposing, ok.number, ok.opening, fun hc => (nomatch hc),
      fun hf => (nomatch (ok.flush hf).1), fun hw => (nomatch ok.walk hw)⟩

theorem afterWrite_exposureConsistent (code : Nat) (h : s.exposureConsistent) : (s.afterWrite code).exposureConsistent := by
  simp only [State.afterWrite]
  split
  · exact takeHead_frame_port (exposureKept_of_moves (attempt_kept s) (attempt_moves s) (by simp) (by simp) (by simp)) h
  · split <;> exact h
  · refine exposureConsistent_of_exposureKept (exposureKept_of (excKept_of_eq ?_) ?_ ?_ ?_ ?_) h
    · simp [List.foldl]
    · simp [List.foldl]
    · simp [List.foldl]
    · simp [List.foldl]
    · exact foldl_catKept State.followLink followLink_catKept _ s
  · exact h

theorem setParameter_exposureConsistent (f : Frame) (h : s.exposureConsistent) :
    (State.setParameter f s).1.exposureConsistent := by
  simp only [State.setParameter]
  split
  · exact h
  · split
    · exact h
    · rename_i g _
      exact afterWrite_exposureConsistent (s := { s with params := g }) _ h

theorem fullReset_exposureConsistent (s : State) : s.fullReset.exposureConsistent := reset_exposureConsistent

end Requests

/-! ### Boundaries, the walk and the FLUSH -/

theorem release_signStatus (c : Cat) (xs : List Context) : (c.release xs).sign.status = c.sign.status :=
  disturb_signStatus _ _

theorem boundary_signStatus (c : Cat) (xs : List Context) : (c.boundary xs).sign.status = c.sign.status := by
  simp only [Cat.boundary, release_signStatus]
  exact disturb_signStatus _ _

theorem insertAscending_eq (n : Nat) (l : List Nat) : insertAscending n l = l.orderedInsert (· ≤ ·) n := by
  induction l with
  | nil => rfl
  | cons m l ih => simp only [insertAscending, List.orderedInsert, ih]

theorem liveSegments_eq (c : Cat) : c.liveSegments =
    ((c.entries.filter fun e => e.2.state == .live).map fun e => e.2.seg).insertionSort (· ≤ ·) := by
  unfold Cat.liveSegments
  generalize (c.entries.filter fun e => e.2.state == .live).map (fun e => e.2.seg) = l
  induction l with
  | nil => rfl
  | cons a l ih => rw [List.foldr_cons, insertAscending_eq, ih, List.insertionSort_cons]

theorem liveSegments_ascending (c : Cat) : c.liveSegments.Pairwise (· ≤ ·) := by
  rw [liveSegments_eq]
  exact List.pairwise_insertionSort _ _

theorem openedContext_consistent (number epoch : Nat) (expected : List Nat) (h : expected.Pairwise (· ≤ ·)) :
    (openedContext number epoch expected).consistent := by
  refine ⟨fun hf => (nomatch hf), fun _ => rfl, fun hc => (by rcases hc with hc | hc <;> nomatch hc),
    fun ht => absurd rfl ht, ?_, fun l hl => (nomatch hl)⟩
  simpa [openedContext, List.map_map, Function.comp_def] using h

theorem completeLong_long (s : State) (r : LongOutcome) (v : Option Word) : (s.completeLong r v).cmd.long = none := by
  simp only [State.completeLong]
  split
  · rfl
  · assumption

theorem completeLong_trailersOf (s : State) (r : LongOutcome) (v : Option Word) (c : Ctx) :
    (s.completeLong r v).trailersOf c = s.trailersOf c := trailersOf_congr (by simp) (by simp) c

theorem exposureConsistent_completeLong {s : State} (r : LongOutcome) (v : Option Word)
    (ok : ExposureOk s.exc s.trailersOf none s.cat.sign.status) : (s.completeLong r v).exposureConsistent := by
  rw [exposureConsistent_iff, completeLong_long, funext (completeLong_trailersOf s r v)]
  simpa using ok

theorem openingComplete_exposureConsistent {s : State} {o : Opening} (opening : s.exc.opening = some o) {c : Cat}
    (sign : c.sign.status = s.cat.sign.status) (expected : List Nat) (ascending : expected.Pairwise (· ≤ ·)) (epoch : Nat)
    (h : s.exposureConsistent) : State.exposureConsistent
      (State.changeCtx { s with cat := c, exc.opening := none } o.ctx fun _ => openedContext o.number epoch expected) := by
  have ok := (exposureConsistent_iff s).1 h
  obtain ⟨free, unexposed, differ⟩ := ok.opening o opening
  have cases_ctx (d : Ctx) : d = o.ctx ∨ d = otherCtx o.ctx := by cases d <;> cases o.ctx <;> simp [otherCtx]
  have other_other : otherCtx (otherCtx o.ctx) = o.ctx := by cases o.ctx <;> rfl
  have own := ok.trailer o.ctx
  rw [free] at own
  have same (d : Ctx) : Exc.ctx { s.exc with opening := none } d = s.exc.ctx d := by cases d <;> rfl
  refine (exposureConsistent_iff _).2 ⟨fun d => ?_, fun d => ?_, fun d => ?_, fun d => ?_, ?_, fun hc => ?_, fun hf => ?_, ?_⟩
  · rcases cases_ctx d with rfl | rfl
    · simpa using openedContext_consistent _ _ _ ascending
    · simpa [same] using ok.context _
  · change s.trailersOf d = _
    rcases cases_ctx d with rfl | rfl
    · simpa [openedContext] using own
    · simpa [same] using ok.trailer _
  · rcases cases_ctx d with rfl | rfl
    · simpa [same] using fun _ => unexposed
    · simpa [same, other_other] using fun h => absurd h unexposed
  · rcases cases_ctx d with rfl | rfl
    · simpa [same, openedContext] using fun h => (differ h).symm
    · simpa [same, other_other, openedContext] using differ
  · simp
  · exact absurd (opening.symm.trans (ok.commit hc).2) (Option.some_ne_none o)
  · have none_ := (ok.flush (by simpa using hf)).2
    exact absurd (opening.symm.trans none_) (Option.some_ne_none o)
  · exact fun hw => ok.walk (sign ▸ hw)

/-- The long request of another kind does not hold the FLUSH conditions or the walk. -/
theorem otherLong_idle {s : State} {k : LongKind} (h : s.exposureConsistent) (run : s.running k = true) :
    (k ≠ .flush → s.exc.flushing = false) ∧ (k ≠ .signCatalogue → s.cat.sign.status ≠ .running) := by
  have ok := (exposureConsistent_iff s).1 h
  refine ⟨fun differ => ?_, fun differ walk => differ (runs_unique run (ok.walk walk))⟩
  by_contra flushing
  exact differ (runs_unique run (ok.flush (Bool.eq_true_of_not_eq_false flushing)).1)

theorem commitBoundaryComplete_exposureConsistent {s : State} {c : Cat} (v : Option Word) (run : s.running .commit = true)
    (sign : c.sign.status = s.cat.sign.status) (h : s.exposureConsistent) :
    (State.completeLong { s with cat := c } .ok v).exposureConsistent := by
  obtain ⟨flushing, walk⟩ := otherLong_idle h run
  refine exposureConsistent_completeLong _ _ ?_
  exact exposureOk_done ((exposureConsistent_iff s).1 h) (flushing (by decide)) (sign ▸ walk (by decide))

theorem walkComplete_exposureConsistent {s : State} {g : Signature} (r : LongOutcome) (v : Option Word)
    (walks : s.cat.sign.status = .running) (done : g.status ≠ .running) (h : s.exposureConsistent) :
    (State.completeLong { s with cat.sign := g } r v).exposureConsistent := by
  have ok := (exposureConsistent_iff s).1 h
  have run : s.running .signCatalogue = true := ok.walk walks
  refine exposureConsistent_completeLong _ _ ?_
  exact exposureOk_done ok ((otherLong_idle h run).1 (by decide)) done

/-- The conditions of a FLUSH come into force: both gather timers stop. -/
theorem flushConditions_exposureConsistent {s : State} (run : s.running .flush = true) (opening : s.exc.opening = none)
    (h : s.exposureConsistent) : State.exposureConsistent
      { s with exc.flushing := true, exc.ctxA.timer := none, exc.ctxB.timer := none } := by
  have ok := (exposureConsistent_iff s).1 h
  have stopped (x : Context) : ContextKept x { x with timer := none } :=
    ⟨rfl, rfl, rfl, rfl, fun ht => absurd rfl ht, rfl, fun hf => by subst hf; rfl⟩
  have timers : ExcKept s.exc { s.exc with ctxA.timer := none, ctxB.timer := none } :=
    ⟨forall_ctx.2 ⟨stopped _, stopped _⟩, rfl, rfl⟩
  have ok := exposureOk_kept timers ok
  exact (exposureConsistent_iff _).2
    ⟨ok.context, ok.trailer, ok.exposing, ok.number, ok.opening, ok.commit, fun _ => ⟨run, opening⟩, ok.walk⟩

theorem queuedTrailers_count (q : List QueueItem) (c : Ctx) :
    (queuedTrailers q).count (.trailer c) = q.count (.trailer c) := by
  induction q with
  | nil => rfl
  | cons i q ih => cases i <;> simp_all [queuedTrailers, List.count_cons]

theorem freeSlots_kept (ns : List Nat) (s : State) : ExcKept s.exc (ns.foldl State.freeSlot s).exc :=
  foldl_kept State.freeSlot freeSlot_kept ns s

theorem freeSlot_trailersOf (s : State) (n : Nat) (c : Ctx) : (s.freeSlot n).trailersOf c = s.trailersOf c :=
  trailersOf_congr (fun d => cellMoves_trailers (freeSlot_moves s n) d) (by simp) c

theorem freeSlots_trailersOf (ns : List Nat) (s : State) (c : Ctx) :
    (ns.foldl State.freeSlot s).trailersOf c = s.trailersOf c := by
  induction ns generalizing s with
  | nil => rfl
  | cons n ns ih => exact (ih _).trans (freeSlot_trailersOf s n c)

theorem flushQueue_exposureConsistent {s : State} (h : s.exposureConsistent) : s.flushQueue.exposureConsistent := by
  refine exposureConsistent_of_kept (s := s) ⟨fun c => ?_, ?_, ?_⟩ ?_ h
  · exact (freeSlots_trailersOf _ _ c).trans
      (trailersOf_congr (t := { s with ctb.queue := queuedTrailers s.ctb.queue }) (queuedTrailers_count _) rfl c)
  · simp
  · simp
  · exact freeSlots_kept _ { s with ctb.queue := queuedTrailers s.ctb.queue }

/-- Both contexts are FREE, nothing opens, no trailer is left: the invariant holds once the long request is over. -/
theorem exposureOk_allFree {x : Exc} {trailers : Ctx → Nat} {sign : SignStatus} (free : ∀ c, x.ctx c = Context.free)
    (opening : x.opening = none) (flushing : x.flushing = false) (none_ : ∀ c, trailers c = 0) (sign_ : sign ≠ .running) :
    ExposureOk x trailers none sign := by
  refine ⟨fun c => ?_, fun c => ?_, fun c hc => ?_, fun c hc => ?_, fun o ho => ?_, fun hc => (nomatch hc), fun hf => ?_,
    fun hw => absurd hw sign_⟩
  · exact free c ▸ contextFree_consistent
  · rw [free, none_]
    rfl
  · rw [free] at hc
    nomatch hc
  · exact absurd (by rw [free]; rfl) hc
  · exact absurd (opening.symm.trans ho) (by simp)
  · exact absurd (flushing.symm.trans hf) (by simp)

theorem cutEmission_trailersOf {s : State} (queue : s.ctb.queue = []) (c : Ctx) : s.cutEmission.trailersOf c = 0 := by
  simp only [State.cutEmission]
  split <;> simp_all [State.trailersOf]

theorem flushRest_trailersOf (s : State) (c : Ctx) : s.flushRest.trailersOf c = 0 :=
  cutEmission_trailersOf (s := { s.readBeforeCut with ctb := s.readBeforeCut.ctb.emptied }) rfl c

theorem flushRest_exposureConsistent {s : State} (run : s.running .flush = true) (flushing : s.exc.flushing = true)
    (h : s.exposureConsistent) : (s.flushRest.completeLong .ok none).exposureConsistent := by
  have ok := (exposureConsistent_iff s).1 h
  refine exposureConsistent_completeLong _ _ (exposureOk_allFree ?_ ?_ ?_ (flushRest_trailersOf s) ?_)
  · exact forall_ctx.2 ⟨rfl, rfl⟩
  · simpa [State.flushRest] using (ok.flush flushing).2
  · simp [State.flushRest]
  · simp only [State.flushRest, State.release, release_signStatus]
    simpa using (otherLong_idle h run).2 (by decide)

/-! ### The end of gathering and of an exposure -/

theorem forcedClose_exposureConsistent {s : State} {c : Ctx} (ending : (s.ctx c).ending = true) (slots : s.slotsConsistent)
    (h : s.exposureConsistent) : ((s.forcedClose c).queueTrailer c).exposureConsistent := by
  simp only [Context.ending, Bool.and_eq_true, beq_iff_eq] at ending
  obtain ⟨gathering, ended⟩ := ending
  have kept := forcedClose_kept s c
  have moves := forcedClose_moves s c ((slotsConsistent_iff s).1 slots).2.touch_nodup
  have closed := exposureConsistent_of_exposureKept (exposureKept_of_moves kept moves (by simp) (by simp) (by simp)) h
  have state := (kept.ctx c).state
  have cause := (kept.ctx c).endCause
  refine exposureConsistent_trailerQueued (c := c) closed rfl rfl rfl rfl rfl (.inr ?_) rfl ?_ rfl rfl rfl rfl
  · exact state.trans gathering
  · intro hc
    exact absurd (show (s.ctx c).endCause = none from cause.symm.trans hc) (by rwa [Option.isSome_iff_ne_none] at ended)

/-- A context whose trailer has been sent is HELD or FREE. -/
theorem trailerSent_exposureConsistent {s : State} {r : Trailer} {point : TrailerPoint}
    (port : s.cop.state = .sendingTrailer r point) (out : Option LinkOutput) (h : s.exposureConsistent) :
    (State.reachDone { s with cop.sent := out, cop.state := .idle } r.ctx).exposureConsistent := by
  have ok := (exposureConsistent_iff s).1 h
  have trailers (d : Ctx) : s.trailersOf d = s.ctb.queue.count (.trailer d) + if r.ctx = d then 1 else 0 := by
    simp [State.trailersOf, port]
  have left (d : Ctx) : State.trailersOf (State.reachDone { s with cop.sent := out, cop.state := .idle } r.ctx) d =
      s.ctb.queue.count (.trailer d) := by
    simp only [State.trailersOf, State.reachDone]
    cases r.ctx <;> rfl
  have closing : (s.exc.ctx r.ctx).state = .closing := by
    by_contra hc
    have own := (trailers r.ctx).symm.trans ((ok.trailer r.ctx).trans (if_neg hc))
    simp at own
  have own : s.ctb.queue.count (.trailer r.ctx) = 0 := by
    have own := (trailers r.ctx).symm.trans ((ok.trailer r.ctx).trans (if_pos closing))
    simpa using own
  have notFree : (s.exc.ctx r.ctx).state ≠ .free := by rw [closing]; decide
  obtain ⟨free, exposing, ended, timer, ascending, lists⟩ := ok.context r.ctx
  have stopped : (s.exc.ctx r.ctx).timer = none := by
    by_contra ht
    exact absurd (closing.symm.trans (timer ht).1) (by decide)
  have others (d : Ctx) (hd : d ≠ r.ctx) : s.ctb.queue.count (.trailer d) = s.trailersOf d := by
    rw [trailers, if_neg (Ne.symm hd), Nat.add_zero]
  refine (exposureConsistent_iff _).2 ?_
  rw [funext left, show (State.reachDone _ r.ctx).cat.sign.status = _ from release_signStatus _ _]
  by_cases hold : s.params.summaryHold = true
  · refine exposureOk_setCtx (k := if s.params.summaryHold then { s.exc.ctx r.ctx with state := .held } else Context.free)
      ok ?_ others ?_ ?_ ?_ ?_
    all_goals rw [if_pos hold]
    · exact ⟨fun hf => (nomatch hf), fun he => (nomatch he), fun _ => ended (.inl closing), fun ht => absurd stopped ht,
        ascending, lists⟩
    · exact own
    · exact fun he => nomatch he
    · exact fun _ => ⟨notFree, rfl⟩
    · exact fun ho => nomatch ho
  · refine exposureOk_setCtx (k := if s.params.summaryHold then { s.exc.ctx r.ctx with state := .held } else Context.free)
      ok ?_ others ?_ ?_ ?_ ?_
    all_goals rw [if_neg hold]
    · exact contextFree_consistent
    · exact own
    · exact fun he => nomatch he
    · exact fun hf => absurd rfl hf
    · exact fun ho => nomatch ho

theorem withdrawMembers_exposureConsistent {s : State} (segs : List Nat) (h : s.exposureConsistent) :
    (s.withdrawMembers segs).exposureConsistent := by
  simp only [State.withdrawMembers]
  refine naturalEnd_exposureConsistent _ (naturalEnd_exposureConsistent _ (exposureConsistent_of_exposureKept
    (exposureKept_of_moves (checkSlots_kept _ _) (checkSlots_moves _ _) (by simp) (by simp) (by simp)) ?_))
  refine exposureConsistent_of_kept (s := s) ⟨fun c => rfl, rfl, disturb_signStatus s.cat segs⟩ ⟨forall_ctx.2 ?_, rfl, rfl⟩ h
  exact ⟨contextKept_withdraw _ _, contextKept_withdraw _ _⟩

theorem completeCommit_exposureConsistent {s : State} (k : Commit) (h : s.exposureConsistent) :
    (s.completeCommit k).exposureConsistent := by
  have accepted : (s.acceptStrip k).exposureConsistent := exposureConsistent_of_exposureKept
    (exposureKept_of (acceptStrip_kept s k) (by simp) (by simp) (by simp) (acceptStrip_catKept s k)) h
  have counted : State.exposureConsistent ((s.acceptStrip k).count k.ctx fun m => { m with accepted := countUp m.accepted }) :=
    exposureConsistent_of_exposureKept (exposureKept_of (count_kept _ _ _ fun _ => rfl) rfl rfl rfl (catKept_refl _)) accepted
  have ended {u : State} (hu : u.exposureConsistent) :
      ((State.naturalEnd { u with ple.commit := none } k.ctx).arbitrate).exposureConsistent := by
    refine exposureConsistent_of_exposureKept (exposureKept_of (excKept_of_eq ?_) ?_ ?_ ?_ (catKept_of_eq ?_))
      (naturalEnd_exposureConsistent k.ctx (s := { u with ple.commit := none }) hu)
    all_goals simp
  exact ended counted

theorem recordSent_exposureConsistent {s : State} {n : Nat} (port : ∀ r p, s.cop.state ≠ .sendingTrailer r p)
    (h : s.exposureConsistent) : (s.recordSent n).exposureConsistent := by
  have idle {u : State} (port : ∀ r p, u.cop.state ≠ .sendingTrailer r p) (h : u.exposureConsistent) :
      State.exposureConsistent { u with cop.state := .idle } := by
    refine exposureConsistent_of_kept (s := u) ⟨fun c => ?_, rfl, rfl⟩ (excKept_refl _) h
    simp only [State.trailersOf]
  simp only [State.recordSent]
  refine takeHead_exposureConsistent (idle ?_ ?_)
  · split <;> simpa using port
  · split
    · refine exposureConsistent_of_kept ⟨freeSlot_trailersOf s n, ?_, ?_⟩
        (excKept_trans (freeSlot_kept s n) (count_kept _ _ _ fun _ => ?_)) h
      · simp
      · simp
      · rfl
    · exact h

/-! ### Every command -/

/-- The port's state changes, with no trailer begun or done. -/
theorem exposureConsistent_port {s : State} {p : Cop} {m : Cmd} (long : m.long = s.cmd.long) (h : s.exposureConsistent)
    (port : ∀ c : Ctx, (match p.state with
      | .sendingTrailer r _ => if r.ctx = c then 1 else 0
      | _ => 0 : Nat) = match s.cop.state with
      | .sendingTrailer r _ => if r.ctx = c then 1 else 0
      | _ => 0) : State.exposureConsistent { s with cop := p, cmd := m } := by
  refine exposureConsistent_of_kept (s := s) ⟨fun c => ?_, long, rfl⟩ (excKept_refl _) h
  exact congrArg (s.ctb.queue.count (.trailer c) + ·) (port c)

theorem exec_exposureConsistent {c : Instr} {s t : State} (h : s.exposureConsistent) (slots : s.slotsConsistent)
    (run : exec c s = .next t) : t.exposureConsistent := by
  by_cases quiet : quietCommand c = true
  · exact exposureConsistent_of_exposureKept (quiet_exposureKept (exec_quiet quiet run)) h
  by_cases catalogue : catalogueCommand c = true
  · exact exposureConsistent_of_exposureKept (catalogueOnly_exposureKept (exec_catalogueOnly catalogue run)) h
  have request {k : RequestClass} {fits : Bool} {f : Frame} {owner : State → State × Answer}
      (keeps : ∀ u : State, u.exposureConsistent → (owner u).1.exposureConsistent) :
      (s.request k fits f owner).exposureConsistent := request_keeps exposureConsistent_ignoresReply keeps h
  cases c
  case commit f => exact Host.Outcome.next.inj run ▸ request fun _ => commitRequest_exposureConsistent f
  case signCatalogue f => exact Host.Outcome.next.inj run ▸ request fun _ => signRequest_exposureConsistent f
  case flush f => exact Host.Outcome.next.inj run ▸ request fun _ => flushRequest_exposureConsistent f
  case openExposure => exact Host.Outcome.next.inj run ▸ request fun _ => openExposure_exposureConsistent
  case closeShutter => exact Host.Outcome.next.inj run ▸ request fun _ => closeShutter_exposureConsistent
  case endExposure f => exact Host.Outcome.next.inj run ▸ request fun _ => endExposure_exposureConsistent f
  case releaseExposure f => exact Host.Outcome.next.inj run ▸ request fun _ => releaseExposure_exposureConsistent f
  case setParameter f => exact Host.Outcome.next.inj run ▸ request fun _ => setParameter_exposureConsistent f
  case resetPart f => exact Host.Outcome.next.inj run ▸ request fun u _ => fullReset_exposureConsistent u
  case fullReset => exact Host.Outcome.next.inj run ▸ fullReset_exposureConsistent s
  case openingEdge =>
    simp only [exec, execOpeningEdge] at run
    (repeat' split at run) <;> obtain rfl := Host.Outcome.next.inj run
    · exact h
    · exact h
    · exact h
    · exact takeOpening_exposureConsistent (Bool.eq_false_of_not_eq_true ‹_›) h
  case closingEdge =>
    simp only [exec, execClosingEdge] at run
    (repeat' split at run) <;> obtain rfl := Host.Outcome.next.inj run
    · exact h
    · exact h
    · exact h
    · exact takeClosing_exposureConsistent h
  case pauseLineRise =>
    simp only [exec, execPauseLineRise] at run
    split at run <;> obtain rfl := Host.Outcome.next.inj run
    · rename_i port
      exact exposureConsistent_port (p := { s.cop with pause := true, state := _ }) rfl h fun c => by rw [port]
    · exact h
  case pauseLineFall =>
    obtain rfl := Host.Outcome.next.inj run
    refine takeHead_exposureConsistent (exposureConsistent_port (p := { s.cop with pause := false, state := _ }) rfl h fun c => ?_)
    cases s.cop.state <;> rfl
  case wordSyncFound p =>
    obtain rfl := Host.Outcome.next.inj run
    exact exposureConsistent_of_exposureKept
      (exposureKept_of (excKept_of_eq (by simp)) (by simp) (by simp) (by simp) (catKept_of_eq (by simp))) h
  case wordSyncLost p =>
    simp only [exec, execWordSyncLost] at run
    split at run <;> obtain rfl := Host.Outcome.next.inj run
    · exact exposureConsistent_of_exposureKept (exposureKept_of (excKept_of_eq (by simp)) (by simp) (by simp) (by simp)
        (goDown_catKept (s.changePort p _) p)) h
    · exact h
  case stripHeader p words =>
    simp only [exec, execStripHeader] at run
    (repeat' split at run) <;> obtain rfl := Host.Outcome.next.inj run
    · exact h
    · exact exposureConsistent_of_exposureKept
        (exposureKept_of (takeHeader_kept s p _ _) (by simp) (by simp) (by simp) (takeHeader_catKept s p _ _)) h
    · exact exposureConsistent_of_exposureKept
        (exposureKept_of (breakReceiving_kept s p) (by simp) (by simp) (by simp) (breakReceiving_catKept s p)) h
  case row p words =>
    simp only [exec, execRow] at run
    split at run <;> obtain rfl := Host.Outcome.next.inj run
    · exact exposureConsistent_of_exposureKept
        (exposureKept_of (takeRow_kept s p _) (by simp) (by simp) (by simp) (takeRow_catKept s p _)) h
    · exact h
  case stripEnd p words =>
    simp only [exec, execStripEnd] at run
    (repeat' split at run) <;> obtain rfl := Host.Outcome.next.inj run
    · exact h
    · exact exposureConsistent_of_exposureKept
        (exposureKept_of (takeEnd_kept s p _) (by simp) (by simp) (by simp) (takeEnd_catKept s p _)) h
    · exact exposureConsistent_of_exposureKept
        (exposureKept_of (breakReceiving_kept s p) (by simp) (by simp) (by simp) (breakReceiving_catKept s p)) h
  case verdictSent p =>
    simp only [exec, execVerdictSent] at run
    split at run <;> obtain rfl := Host.Outcome.next.inj run <;> exact h
  case batchWindowExpiry =>
    simp only [exec, execBatchWindowExpiry] at run
    split at run <;> obtain rfl := Host.Outcome.next.inj run
    · exact beginDueBatch_exposureConsistent (s := { s with cat.batch := .due }) h
    · exact h
  case batchApplicationBegin =>
    simp only [exec, execBatchApplicationBegin] at run
    split at run <;> obtain rfl := Host.Outcome.next.inj run
    · exact exposureConsistent_of_exposureKept (s := { s with cat.batch := .applying true })
        (exposureKept_of (abandonWhere_kept _ _ _) (by simp) (by simp) (by simp) (abandonWhere_catKept _ _ _)) h
    · exact h
  case batchWithdrawal =>
    simp only [exec, execBatchWithdrawal] at run
    split at run <;> obtain rfl := Host.Outcome.next.inj run
    · refine takeHead_exposureConsistent (serveLatch_exposureConsistent ?_)
      exact exposureConsistent_of_kept (s := s.withdrawMembers s.cat.members) ⟨fun _ => rfl, rfl, disturb_signStatus _ _⟩
        (excKept_refl _) (withdrawMembers_exposureConsistent s.cat.members h)
    · exact h
  case gatherTimerExpiry c =>
    simp only [exec, execGatherTimerExpiry] at run
    split at run <;> obtain rfl := Host.Outcome.next.inj run
    · rename_i expires
      exact beginEnd_exposureConsistent _ expires.2 h
    · exact h
  case forcedClose c =>
    simp only [exec, execForcedClose] at run
    split at run <;> obtain rfl := Host.Outcome.next.inj run
    · rename_i ends
      exact takeHead_exposureConsistent (forcedClose_exposureConsistent ends.1 slots h)
    · exact h
  case openingComplete =>
    simp only [exec, execOpeningComplete] at run
    split at run <;> obtain rfl := Host.Outcome.next.inj run
    · exact h
    · exact serveLatch_exposureConsistent (beginDueBatch_exposureConsistent
        (openingComplete_exposureConsistent ‹_› (boundary_signStatus _ _) _ (liveSegments_ascending _) _ h))
  case commitBoundaryComplete =>
    simp only [exec, execCommitBoundaryComplete] at run
    split at run <;> obtain rfl := Host.Outcome.next.inj run
    · rename_i due
      exact serveLatch_exposureConsistent (beginDueBatch_exposureConsistent
        (commitBoundaryComplete_exposureConsistent _ due.1 (boundary_signStatus _ _) h))
    · exact h
  case signatureEntryStep =>
    simp only [exec, execSignatureEntryStep] at run
    (repeat' split at run) <;> obtain rfl := Host.Outcome.next.inj run <;> exact h
  case signatureStampStep =>
    simp only [exec, execSignatureStampStep] at run
    split at run <;> obtain rfl := Host.Outcome.next.inj run
    · rename_i walks
      refine walkComplete_exposureConsistent _ _ walks.1 ?_ h
      dsimp only
      split <;> decide
    · exact h
  case flushFirstStep =>
    simp only [exec, execFlushFirstStep] at run
    split at run <;> obtain rfl := Host.Outcome.next.inj run
    · rename_i due
      have forced := flushConditions_exposureConsistent due.1 due.2.2.1 h
      have attempted := exposureConsistent_of_exposureKept
        (exposureKept_of_moves (attempt_kept _) (attempt_moves _) (by simp) (by simp) (by simp)) forced
      exact flushQueue_exposureConsistent (exposureConsistent_of_exposureKept
        (exposureKept_of (abandonWhere_kept _ _ _) (by simp) (by simp) (by simp) (abandonWhere_catKept _ _ _)) attempted)
    · exact h
  case flushComplete =>
    simp only [exec, execFlushComplete] at run
    split at run <;> obtain rfl := Host.Outcome.next.inj run
    · rename_i due
      exact takeHead_exposureConsistent (serveLatch_exposureConsistent (beginDueBatch_exposureConsistent
        (flushRest_exposureConsistent due.1 due.2.1 h)))
    · exact h
  case rowReserve =>
    simp only [exec, execRowReserve] at run
    (repeat' split at run) <;> obtain rfl := Host.Outcome.next.inj run
    · exact h
    · exact takeHead_frame_port (s := s.changeCommit _)
        (exposureKept_of_moves (ask_kept _ _) (ask_moves _ _) (by simp) (by simp) (by simp)) h
    · exact h
  case cellOpeningComplete =>
    simp only [exec, execCellOpeningComplete] at run
    (repeat' split at run) <;> obtain rfl := Host.Outcome.next.inj run
    · exact h
    · exact h
    · exact takeHead_frame_port
        (exposureKept_of_moves (openingDone_kept s _ _) (openingDone_moves s _ _) (by simp) (by simp) (by simp)) h
  case pixelPlace found =>
    simp only [exec, execPixelPlace] at run
    (repeat' split at run) <;> obtain rfl := Host.Outcome.next.inj run
    · exact h
    · exact exposureConsistent_of_exposureKept
        (exposureKept_of_moves (placePixel_kept s _ _ found) (placePixel_moves s _ _ found) (by simp) (by simp) (by simp)) h
    · exact h
    · exact h
  case rowAdvance =>
    simp only [exec, execRowAdvance] at run
    split at run
    · exact Host.Outcome.next.inj run ▸ h
    · rename_i k _
      split at run
      · have progressed := exposureConsistent_of_exposureKept (exposureKept_of
          (advanceProgress_kept (s.changeCommit fun m => { m with phase := .advance }) k) (by simp) (by simp) (by simp)
          (catKept_of_eq (by simp))) h
        have advanced := exposureConsistent_of_exposureKept (exposureKept_of_moves
          (advanceCells_kept _ k) (advanceCells_moves _ k) (by simp) (by simp) (by simp)) progressed
        split at run <;> obtain rfl := Host.Outcome.next.inj run
        · exact takeHead_exposureConsistent advanced
        · exact takeHead_exposureConsistent (completeCommit_exposureConsistent k advanced)
      · exact Host.Outcome.next.inj run ▸ h
  case preparationEnd found =>
    simp only [exec, execPreparationEnd] at run
    split at run <;> obtain rfl := Host.Outcome.next.inj run
    · rename_i n port
      refine exposureConsistent_of_kept ⟨fun c => ?_, by simp, by simp⟩ (excKept_of_eq (by simp)) h
      rw [State.trailersOf, State.trailersOf, cellMoves_trailers (prepare_moves s n found), port]
      have item := (prepare_port port found).1
      split
      · rename_i sending
        rw [sending] at item
        nomatch item
      · rfl
    · exact h
  case unitSent =>
    simp only [exec, execUnitSent] at run
    split at run
    · rename_i n header rows position port
      split at run <;> obtain rfl := Host.Outcome.next.inj run
      · exact exposureConsistent_port (p := { s.cop with sent := _, state := _ }) rfl h fun c => by rw [port]
      · exact recordSent_exposureConsistent (by simp [port]) h
    · exact Host.Outcome.next.inj run ▸ h
  case trailerSent =>
    simp only [exec, execTrailerSent] at run
    split at run
    · rename_i r point port
      split at run <;> obtain rfl := Host.Outcome.next.inj run
      · exact h
      · exact takeHead_exposureConsistent (trailerSent_exposureConsistent port _ h)
    · exact Host.Outcome.next.inj run ▸ h
  case abortMarkerSent =>
    simp only [exec, execAbortMarkerSent] at run
    split at run <;> obtain rfl := Host.Outcome.next.inj run
    · rename_i port
      exact takeHead_exposureConsistent
        (exposureConsistent_port (p := { s.cop with sent := _, state := _ }) rfl h fun c => by rw [port])
    · exact h
  case startupClearingEnd =>
    simp only [exec, execStartupClearingEnd] at run
    split at run <;> obtain rfl := Host.Outcome.next.inj run
    · rename_i starting
      have port := ((slotsConsistent_iff s).1 slots).1.1 starting
      refine takeHead_exposureConsistent (exposureConsistent_of_kept (s := s) ⟨fun c => ?_, rfl, rfl⟩ (excKept_refl _) h)
      simp [State.trailersOf, port]
    · exact h
  all_goals simp_all [quietCommand, catalogueCommand]

theorem contextKept_tick (x : Context) : ContextKept x x.tick := by
  refine ⟨rfl, rfl, rfl, rfl, fun ht hx => ?_, rfl, fun hf => by subst hf; rfl⟩
  exact ht (by rw [Context.tick, hx]; rfl)

theorem tick_exposureConsistent {s : State} (h : s.exposureConsistent) : s.tick.exposureConsistent :=
  exposureConsistent_of_kept (s := s) ⟨fun _ => rfl, rfl, rfl⟩
    ⟨forall_ctx.2 ⟨contextKept_tick _, contextKept_tick _⟩, rfl, rfl⟩ h

/-- Settles O57: by cases on the command at the front of the queue, each of which keeps the contexts or changes one by a
rule of its own. -/
theorem exposureStaysConsistent : Obligations.ExposureStaysConsistent := by
  intro s t h slots run
  cases pending : s.pending with
  | nil =>
    rw [step_of_empty pending] at run
    exact Host.Outcome.next.inj run ▸ tick_exposureConsistent h
  | cons c rest =>
    rw [step_of_cons pending] at run
    exact exec_exposureConsistent (s := { s with pending := rest }) h slots run

end Sys2Proof.Proofs

/-! ## Proofs: every step keeps the invariant of the catalogue (chapter 1) -/

namespace Sys2Proof.Proofs

open Sys2Proof Sys2Proof.Machine Sys2Proof.Laws

/-! ### The invariant, by what holds of each entry -/

/-- The invariant of the catalogue with a property of entries and the epoch in the place of their consistency. -/
structure CatHas (P : Entry → Nat → Prop) (c : Cat) : Prop where
  wf : c.entries.wf = true
  bound : ∀ e ∈ c.entries, e.1 < 256
  segs : (c.entries.map fun e => e.2.seg).Nodup
  entry : ∀ e ∈ c.entries, P e.2 c.epoch
  members : c.batch = .closed → ∀ e ∈ c.entries, e.2.member = false

/-- The invariant of the catalogue. -/
abbrev CatOk : Cat → Prop := CatHas Entry.consistent

theorem catalogueConsistent_iff (s : State) : s.catalogueConsistent ↔ CatOk s.cat :=
  ⟨fun ⟨wf, bound, segs, entry, members⟩ => ⟨wf, bound, segs, entry, members⟩,
    fun ⟨wf, bound, segs, entry, members⟩ => ⟨wf, bound, segs, entry, members⟩⟩

/-- What holds of a consistent entry, the number of its installed versions aside. -/
structure Tagged (e : Entry) (epoch : Nat) : Prop where
  seg : e.seg ≤ 1023
  pending : e.state = .pending → e.installed = [] ∧ ∃ v, e.staged = some (.version v)
  installed : e.state ≠ .pending → e.installed ≠ []
  retiring : e.state = .retiring → e.staged = none
  member : e.member = true → e.state = .live ∧ e.staged = none
  rising : (e.installed.map fun k => k.epoch).Pairwise (· < ·)
  below : ∀ k ∈ e.installed, k.epoch ≤ epoch

theorem consistent_iff (e : Entry) (epoch : Nat) : e.consistent epoch ↔ Tagged e epoch ∧ e.installed.length ≤ 2 :=
  ⟨fun ⟨seg, pending, installed, retiring, member, short, rising, below⟩ =>
      ⟨⟨seg, pending, installed, retiring, member, rising, below⟩, short⟩,
    fun ⟨⟨seg, pending, installed, retiring, member, rising, below⟩, short⟩ =>
      ⟨seg, pending, installed, retiring, member, short, rising, below⟩⟩

section CatHas

variable {P Q : Entry → Nat → Prop} {c c' : Cat}

/-- Every entry changes in its place. -/
theorem catHas_map (ok : CatHas P c) (g : Entry → Entry) (entries : c'.entries = c.entries.map fun e => (e.1, g e.2))
    (seg : ∀ e ∈ c.entries, (g e.2).seg = e.2.seg) (keeps : ∀ e ∈ c.entries, Q (g e.2) c'.epoch)
    (members : c'.batch = .closed → ∀ e ∈ c.entries, (g e.2).member = false) : CatHas Q c' := by
  refine ⟨?_, fun e he => ?_, ?_, fun e he => ?_, fun closed e he => ?_⟩
  · rw [entries]
    exact table_wf_map c.entries (fun e => g e.2) ok.wf
  · obtain ⟨e', he', rfl⟩ := List.mem_map.1 (entries ▸ he)
    exact ok.bound e' he'
  · have same : c'.entries.map (fun e => e.2.seg) = c.entries.map fun e => e.2.seg := by
      rw [entries, List.map_map]
      exact List.map_congr_left seg
    exact same ▸ ok.segs
  · obtain ⟨e', he', rfl⟩ := List.mem_map.1 (entries ▸ he)
    exact keeps e' he'
  · obtain ⟨e', he', rfl⟩ := List.mem_map.1 (entries ▸ he)
    exact members closed e' he'

/-- Some entries become VACANT. -/
theorem catHas_filter (ok : CatHas P c) (p : Nat × Entry → Bool) (entries : c'.entries = c.entries.filter p)
    (epoch : c'.epoch = c.epoch)
    (members : c'.batch = .closed → ∀ e ∈ c.entries, p e = true → e.2.member = false) : CatHas P c' := by
  have mem {e : Nat × Entry} (he : e ∈ c'.entries) : e ∈ c.entries ∧ p e = true := List.mem_filter.1 (entries ▸ he)
  refine ⟨?_, fun e he => ok.bound e (mem he).1, ?_, fun e he => epoch ▸ ok.entry e (mem he).1,
    fun closed e he => members closed e (mem he).1 (mem he).2⟩
  · rw [entries]
    exact table_wf_filter _ _ ok.wf
  · rw [entries]
    exact ok.segs.sublist (List.filter_sublist.map _)

theorem catHas_congr (ok : CatHas P c) (entries : c'.entries = c.entries) (epoch : c'.epoch = c.epoch)
    (batch : c'.batch = .closed → c.batch = .closed) : CatHas P c' :=
  catHas_filter ok (fun _ => true) (entries.trans (List.filter_eq_self.2 fun _ _ => rfl).symm) epoch
    fun closed e he _ => ok.members (batch closed) e he

theorem catHas_disturb (ok : CatHas P c) (segs : List Nat) : CatHas P (c.disturb segs) := by
  simp only [Cat.disturb]
  split <;> exact ⟨ok.wf, ok.bound, ok.segs, ok.entry, ok.members⟩

theorem disturb_entries (c : Cat) (segs : List Nat) : (c.disturb segs).entries = c.entries := by
  simp only [Cat.disturb]
  split <;> rfl

theorem disturb_epoch (c : Cat) (segs : List Nat) : (c.disturb segs).epoch = c.epoch := by
  simp only [Cat.disturb]
  split <;> rfl

theorem disturb_batch (c : Cat) (segs : List Nat) : (c.disturb segs).batch = c.batch := by
  simp only [Cat.disturb]
  split <;> rfl

/-- A release keeps of each entry what is needed, and drops those that are vacated (R30, R37). -/
theorem catHas_release (ok : CatHas P c) (xs : List Context)
    (keeps : ∀ e ∈ c.entries, P e.2 c.epoch → Q (e.2.keepNeeded xs) c.epoch) : CatHas Q (c.release xs) := by
  have left : CatHas P { c with entries := c.entries.filter fun e => !e.2.vacated xs } :=
    catHas_filter ok _ rfl rfl fun closed e he _ => ok.members closed e he
  refine catHas_map left (fun e => e.keepNeeded xs) rfl (fun _ _ => rfl) (fun e he => ?_) fun closed e he => ?_
  · have was := List.mem_filter.1 he
    exact (disturb_epoch c _).symm ▸ keeps e was.1 (ok.entry e was.1)
  · exact left.members ((disturb_batch c _).symm.trans closed) e he

end CatHas

theorem entryConsistent_kept {e e' : Entry} (kept : EntryKept e e') {epoch : Nat} (h : e.consistent epoch) :
    e'.consistent epoch := by
  rw [Entry.consistent, kept.seg, kept.state, kept.installed, kept.staged, kept.member]
  exact h

theorem catOk_kept {c c' : Cat} (kept : CatKept c c') (ok : CatOk c) : CatOk c' := by
  obtain ⟨⟨g, keeps, entries⟩, epoch, batch, -⟩ := kept
  refine catHas_map ok g entries (fun e _ => (keeps e.2).seg) (fun e he => ?_) fun closed e he => ?_
  · exact epoch ▸ entryConsistent_kept (keeps e.2) (ok.entry e he)
  · exact (keeps e.2).member.trans (ok.members (batch ▸ closed) e he)

theorem catOk_batch {c : Cat} (ok : CatOk c) {b : Batch} (open_ : b ≠ .closed) : CatOk { c with batch := b } :=
  catHas_congr ok rfl rfl fun closed => absurd closed open_

/-! ### Requests that change one entry -/

section OneEntry

variable {c : Cat} {seg i : Nat} {e : Entry}

theorem mem_of_find (found : c.find seg = some (i, e)) : (i, e) ∈ c.entries := List.mem_of_find?_eq_some found

theorem seg_of_find (found : c.find seg = some (i, e)) : e.seg = seg := by
  have h := List.find?_some found
  exact beq_iff_eq.1 h

/-- The entry of a segment is the only one with it (R2). -/
theorem find_unique (ok : CatOk c) (found : c.find seg = some (i, e)) {e' : Nat × Entry} (he : e' ∈ c.entries)
    (h : e'.2.seg = seg) : e' = (i, e) :=
  List.inj_on_of_nodup_map ok.segs he (mem_of_find found) (h.trans (seg_of_find found).symm)

theorem catOk_changeEntry (ok : CatOk c) (found : c.find seg = some (i, e)) (f : Entry → Entry) (same : (f e).seg = e.seg)
    (keeps : (f e).consistent c.epoch) (members : c.batch = .closed → (f e).member = false) :
    CatOk (c.changeEntry seg f) := by
  have changed {e' : Nat × Entry} (he : e' ∈ c.entries) (h : e'.2.seg = seg) : e'.2 = e :=
    congrArg Prod.snd (find_unique ok found he h)
  refine catHas_map ok (fun e => if e.seg = seg then f e else e) rfl (fun e' he => ?_) (fun e' he => ?_)
    fun closed e' he => ?_
  all_goals split
  · rw [changed he ‹_›]
    exact same
  · rfl
  · rw [changed he ‹_›]
    exact keeps
  · exact ok.entry e' he
  · rw [changed he ‹_›]
    exact members closed
  · exact ok.members closed e' he

theorem catOk_vacate (ok : CatOk c) (seg : Nat) :
    CatOk { c.disturb [seg] with entries := c.entries.filter fun e => e.2.seg != seg } := by
  have left : CatOk { c with entries := c.entries.filter fun e => e.2.seg != seg } :=
    catHas_filter ok _ rfl rfl fun closed e he _ => ok.members closed e he
  exact catHas_congr left rfl (disturb_epoch c _) fun closed => (disturb_batch c _).symm.trans closed

/-- What a write at a number that is not listed lists. -/
theorem write_perm {α : Type} (t : Table α) (k : Nat) (a : α) (free : Table.read t k = none) :
    (Table.write t k a).Perm ((k, a) :: t) := by
  induction t with
  | nil => exact .refl _
  | cons b t ih =>
    simp only [Table.read] at free
    split at free
    · nomatch free
    · rename_i differ
      simp only [Table.write, if_neg (Ne.symm differ)]
      split
      · exact .refl _
      · exact ((ih free).cons b).trans (.swap _ _ _)

theorem lowest_eq_some {α : Type} {t : Table α} (wf : Table.wf t = true) {limit n : Nat} (h : t.lowest limit = some n) :
    n < limit ∧ Table.read t n = none := by
  simp only [Table.lowest] at h
  split at h
  · obtain rfl := Option.some.inj h
    exact ⟨‹_›, (read_lowestFrom t 0 wf fun _ _ => Nat.zero_le _).1⟩
  · nomatch h

theorem catOk_added (ok : CatOk c) (low : seg ≤ 1023) (unknown : c.find seg = none)
    (free : c.entries.lowest Config.entryCount = some i) (v : Version) :
    CatOk { c.disturb [seg] with entries := c.entries.write i (Entry.pendingWith seg v) } := by
  obtain ⟨below, unlisted⟩ := lowest_eq_some ok.wf free
  have perm := write_perm c.entries i (Entry.pendingWith seg v) unlisted
  have other {e : Nat × Entry} (he : e ∈ c.entries) : e.2.seg ≠ seg := by
    have h := List.find?_eq_none.1 unknown e he
    simpa using h
  have added : CatOk { c with entries := c.entries.write i (Entry.pendingWith seg v) } := by
    have mem {e : Nat × Entry} (he : e ∈ c.entries.write i (Entry.pendingWith seg v)) :
        e = (i, Entry.pendingWith seg v) ∨ e ∈ c.entries := List.mem_cons.1 (perm.mem_iff.1 he)
    refine ⟨table_wf_write _ _ _ ok.wf, fun e he => ?_, ?_, fun e he => ?_, fun closed e he => ?_⟩
    · rcases mem he with rfl | he
      · exact below
      · exact ok.bound e he
    · refine ((perm.map _).nodup_iff).2 (List.nodup_cons.2 ⟨fun h => ?_, ok.segs⟩)
      obtain ⟨e, he, same⟩ := List.mem_map.1 h
      exact other he same
    · rcases mem he with rfl | he
      · exact ⟨low, fun _ => ⟨rfl, v, rfl⟩, fun h => absurd rfl h, fun h => (nomatch h), fun h => (nomatch h),
          Nat.zero_le _, .nil, fun k hk => (nomatch hk)⟩
      · exact ok.entry e he
    · rcases mem he with rfl | he
      · rfl
      · exact ok.members closed e he
  exact catHas_congr added rfl (disturb_epoch c _) fun closed => (disturb_batch c _).symm.trans closed

end OneEntry

section Requests

variable {s : State}

/-- A request that changes an entry acts on one found, with a segment id in range. -/
theorem changing_catalogueConsistent {seg : Nat} {act : State × Answer} (h : s.catalogueConsistent)
    (acts : seg ≤ 1023 → act.1.catalogueConsistent) : (s.changing seg act).1.catalogueConsistent := by
  simp only [State.changing]
  split
  · exact h
  · split
    · exact h
    · exact acts (Nat.le_of_not_lt ‹_›)

theorem stageAdd_catalogueConsistent (f : Frame) (h : s.catalogueConsistent) :
    (State.stageAdd f s).1.catalogueConsistent := by
  refine changing_catalogueConsistent h fun low => ?_
  split
  · exact h
  · rename_i unknown
    split
    · exact h
    · rename_i i free
      exact staging_keeps h fun v =>
        (catalogueConsistent_iff _).2 (catOk_added ((catalogueConsistent_iff s).1 h) low unknown free v)

theorem stageChange_catalogueConsistent (f : Frame) (h : s.catalogueConsistent) :
    (State.stageChange f s).1.catalogueConsistent := by
  have ok := (catalogueConsistent_iff s).1 h
  refine changing_catalogueConsistent h fun _ => onEntry_keeps h fun i e found => ?_
  split
  · rename_i may
    refine staging_keeps h fun v => (catalogueConsistent_iff _).2 (catOk_changeEntry ok found
      (fun e => { e with staged := some (.version v) }) rfl ?_ ?_)
    · obtain ⟨seg, pending, installed, retiring, member, rest⟩ := ok.entry _ (mem_of_find found)
      refine ⟨seg, fun he => ⟨(pending he).1, v, rfl⟩, installed, fun he => ?_, fun hm => ?_, rest⟩
      · simp [Entry.mayStage, show e.state = .retiring from he] at may
      · have live : e.state = .live := (member hm).1
        simp [Entry.mayStage, live, show e.member = true from hm] at may
    · exact fun closed => ok.members closed _ (mem_of_find found)
  · exact h

theorem vacate_catalogueConsistent (h : s.catalogueConsistent) (seg : Nat) : (s.vacate seg).catalogueConsistent :=
  (catalogueConsistent_iff _).2 (catOk_vacate ((catalogueConsistent_iff s).1 h) seg)

theorem unstage_catalogueConsistent (f : Frame) (h : s.catalogueConsistent) :
    (State.unstage f s).1.catalogueConsistent := by
  have ok := (catalogueConsistent_iff s).1 h
  refine changing_catalogueConsistent h fun _ => onEntry_keeps h fun i e found => ?_
  split
  · exact vacate_catalogueConsistent h _
  · rename_i live
    refine (catalogueConsistent_iff _).2 (catOk_changeEntry ok found (fun e => { e with staged := none }) rfl ?_ ?_)
    · obtain ⟨seg, pending, installed, retiring, member, rest⟩ := ok.entry _ (mem_of_find found)
      exact ⟨seg, fun he => absurd (live.symm.trans he) (by decide), installed, fun _ => rfl,
        fun hm => ⟨(member hm).1, rfl⟩, rest⟩
    · exact fun closed => ok.members closed _ (mem_of_find found)
  · exact h

theorem retireAtBoundary_catalogueConsistent {seg i : Nat} {e : Entry} (found : s.cat.find seg = some (i, e))
    (h : s.catalogueConsistent) : (s.retireAtBoundary seg e).1.catalogueConsistent := by
  have ok := (catalogueConsistent_iff s).1 h
  simp only [State.retireAtBoundary]
  split
  · rename_i may
    obtain ⟨live, single⟩ := may
    refine (catalogueConsistent_iff _).2 (catOk_changeEntry ok found
      (fun e => { e with staged := some .retirement }) rfl ?_ fun _ => single)
    obtain ⟨seg, pending, installed, retiring, member, rest⟩ := ok.entry _ (mem_of_find found)
    exact ⟨seg, fun he => absurd (live.symm.trans he) (by decide), installed,
      fun he => absurd (live.symm.trans he) (by decide), fun hm => absurd (single.symm.trans hm) (by decide), rest⟩
  · exact h

theorem joined_ne_closed (b : Batch) (w : Nat) : b.joined w ≠ .closed := by cases b <;> exact nofun

theorem retireImmediate_catalogueConsistent {seg i : Nat} {e : Entry} (found : s.cat.find seg = some (i, e))
    (h : s.catalogueConsistent) : (s.retireImmediate seg e).1.catalogueConsistent := by
  have ok := (catalogueConsistent_iff s).1 h
  simp only [State.retireImmediate]
  split
  · rename_i live
    split
    · exact h
    · have opened := catOk_batch ok (joined_ne_closed s.cat.batch s.params.batchWindow)
      refine (catalogueConsistent_iff _).2 (catOk_changeEntry opened found
        (fun e => { e with member := true, staged := none }) rfl ?_ fun closed => absurd closed (joined_ne_closed _ _))
      obtain ⟨seg, pending, installed, retiring, member, rest⟩ := ok.entry _ (mem_of_find found)
      exact ⟨seg, fun he => absurd (live.symm.trans he) (by decide), installed, fun _ => rfl, fun _ => ⟨live, rfl⟩, rest⟩
  · exact h

theorem retire_catalogueConsistent (f : Frame) (h : s.catalogueConsistent) :
    (State.retire f s).1.catalogueConsistent := by
  simp only [State.retire]
  split
  · exact h
  · split
    · exact h
    · refine changing_catalogueConsistent h fun _ => onEntry_keeps h fun i e found => ?_
      split
      · exact vacate_catalogueConsistent h _
      · split
        · exact retireAtBoundary_catalogueConsistent found h
        · exact retireImmediate_catalogueConsistent found h

theorem catalogueConsistent_of_catKept {t : State} (kept : CatKept s.cat t.cat) (h : s.catalogueConsistent) :
    t.catalogueConsistent := (catalogueConsistent_iff t).2 (catOk_kept kept ((catalogueConsistent_iff s).1 h))

theorem clearSuspect_catalogueConsistent (f : Frame) (h : s.catalogueConsistent) :
    (State.clearSuspect f s).1.catalogueConsistent :=
  changing_catalogueConsistent h fun _ => onEntry_keeps h fun _ _ _ =>
    catalogueConsistent_of_catKept (catKept_changeEntry _ _ _ fun _ => ⟨rfl, rfl, rfl, rfl, rfl⟩) h

theorem catalogueConsistent_ignoresReply : IgnoresReply State.catalogueConsistent := fun _ _ _ _ h => h

/-- The requests that write the catalogue alone keep its invariant. -/
theorem catalogueCommand_catalogueConsistent {c : Instr} (hc : catalogueCommand c = true) {t : State}
    (run : exec c s = .next t) (h : s.catalogueConsistent) : t.catalogueConsistent := by
  have request {k : RequestClass} {fits : Bool} {f : Frame} {owner : State → State × Answer}
      (keeps : ∀ u : State, u.catalogueConsistent → (owner u).1.catalogueConsistent) :
      (s.request k fits f owner).catalogueConsistent := request_keeps catalogueConsistent_ignoresReply keeps h
  cases c
  case putField f =>
    refine Host.Outcome.next.inj run ▸ request fun u hu => ?_
    simp only [State.putField]
    repeat' split
    all_goals exact hu
  case clearStaging => exact Host.Outcome.next.inj run ▸ request fun _ hu => hu
  case loadStaging f =>
    refine Host.Outcome.next.inj run ▸ request fun u hu => ?_
    simp only [State.loadStaging]
    repeat' split
    all_goals exact hu
  case stageAdd f => exact Host.Outcome.next.inj run ▸ request fun _ => stageAdd_catalogueConsistent f
  case stageChange f => exact Host.Outcome.next.inj run ▸ request fun _ => stageChange_catalogueConsistent f
  case unstage f => exact Host.Outcome.next.inj run ▸ request fun _ => unstage_catalogueConsistent f
  case retire f => exact Host.Outcome.next.inj run ▸ request fun _ => retire_catalogueConsistent f
  case clearSuspect f => exact Host.Outcome.next.inj run ▸ request fun _ => clearSuspect_catalogueConsistent f
  case writeStamp f =>
    refine Host.Outcome.next.inj run ▸ request fun u hu => ?_
    simp only [State.writeStamp]
    repeat' split
    all_goals exact hu
  all_goals nomatch hc

end Requests

/-! ### Boundaries and releases (R27 to R30, R37) -/

theorem pairwise_epoch_nodup {l : List Installed} (rising : (l.map fun k => k.epoch).Pairwise (· < ·)) : l.Nodup :=
  (List.pairwise_map.1 rising).imp fun {a b} lt (same : a = b) => Nat.ne_of_lt lt (congrArg _ same)

theorem tagged_keepNeeded {e : Entry} {epoch : Nat} (h : Tagged e epoch) (xs : List Context) :
    Tagged (e.keepNeeded xs) epoch := by
  refine ⟨h.seg, fun hp => ?_, fun hp => ?_, h.retiring, h.member, ?_, fun k hk => h.below k (List.mem_filter.1 hk).1⟩
  · obtain ⟨nothing, staged⟩ := h.pending hp
    exact ⟨by simp [Entry.keepNeeded, nothing], staged⟩
  · have some_ := h.installed hp
    refine List.ne_nil_of_mem (List.mem_filter.2 ⟨List.getLast_mem some_, ?_⟩)
    simp [List.getLast?_eq_some_getLast some_]
  · exact h.rising.sublist (List.filter_sublist.map _)

/-- Of the installed versions the newest and the one that the open context resolves are kept: two at most. -/
theorem keepNeeded_length_le {e : Entry} {epoch : Nat} (h : Tagged e epoch) {xs : List Context} {x : Context}
    (alone : ∀ y ∈ xs, y.isOpen = true → y = x) : (e.keepNeeded xs).installed.length ≤ 2 := by
  have kept : (e.keepNeeded xs).installed ⊆ e.installed.getLast?.toList ++ (x.resolve e).toList := by
    intro i hi
    obtain ⟨-, needed⟩ := List.mem_filter.1 hi
    rcases Bool.or_eq_true_iff.1 needed with last | resolved
    · simp [beq_iff_eq.1 last]
    · obtain ⟨y, hy, resolves⟩ := List.any_eq_true.1 resolved
      have resolves := beq_iff_eq.1 resolves
      have open_ : y.isOpen = true := by
        by_contra shut
        simp [Context.resolve, shut] at resolves
      simp [← alone y hy open_, resolves]
  have short (o : Option Installed) : o.toList.length ≤ 1 := by cases o <;> simp
  have nodup : (e.keepNeeded xs).installed.Nodup := (pairwise_epoch_nodup h.rising).filter _
  calc (e.keepNeeded xs).installed.length
      ≤ (e.installed.getLast?.toList ++ (x.resolve e).toList).length := (List.subperm_of_subset nodup kept).length_le
    _ ≤ 2 := by
      rw [List.length_append]
      have := short e.installed.getLast?
      have := short (x.resolve e)
      omega

theorem consistent_keepNeeded {e : Entry} {epoch : Nat} (h : e.consistent epoch) (xs : List Context) :
    (e.keepNeeded xs).consistent epoch := by
  obtain ⟨tagged, short⟩ := (consistent_iff e epoch).1 h
  exact (consistent_iff _ _).2 ⟨tagged_keepNeeded tagged xs, Nat.le_trans (List.length_filter_le _ _) short⟩

theorem catOk_release {c : Cat} (ok : CatOk c) (xs : List Context) : CatOk (c.release xs) :=
  catHas_release ok xs fun _ _ h => consistent_keepNeeded h xs

theorem tagged_atBoundary {e : Entry} {epoch : Nat} (h : Tagged e epoch) : Tagged (e.atBoundary (epoch + 1)) (epoch + 1) := by
  have below : ∀ k ∈ e.installed, k.epoch ≤ epoch + 1 := fun k hk => Nat.le_succ_of_le (h.below k hk)
  simp only [Entry.atBoundary]
  split
  · rename_i v staged
    refine ⟨h.seg, fun hp => ?_, fun _ => by simp, fun _ => rfl, fun hm => ?_, ?_, fun k hk => ?_⟩
    · by_cases was : e.state = .pending
      · rw [if_pos was] at hp
        nomatch hp
      · rw [if_neg was] at hp
        exact absurd hp was
    · exact absurd (staged.symm.trans (h.member hm).2) (by simp)
    · rw [List.map_append, List.pairwise_append]
      refine ⟨h.rising, by simp, fun a ha b hb => ?_⟩
      obtain ⟨k, hk, rfl⟩ := List.mem_map.1 ha
      obtain rfl := List.mem_singleton.1 hb
      exact Nat.lt_succ_of_le (h.below k hk)
    · rcases List.mem_append.1 hk with hk | hk
      · exact below k hk
      · obtain rfl := List.mem_singleton.1 hk
        exact Nat.le_refl _
  · rename_i staged
    have notPending : e.state ≠ .pending := fun hp => by
      obtain ⟨-, v, version⟩ := h.pending hp
      exact absurd (staged.symm.trans version) (by simp)
    refine ⟨h.seg, fun hp => ?_, fun _ => h.installed notPending, fun _ => rfl, fun hm => ?_, h.rising, below⟩
    · split at hp
      · nomatch hp
      · exact absurd hp notPending
    · exact absurd (staged.symm.trans (h.member hm).2) (by simp)
  · exact ⟨h.seg, h.pending, h.installed, h.retiring, h.member, h.rising, below⟩

theorem atBoundary_seg (e : Entry) (epoch : Nat) : (e.atBoundary epoch).seg = e.seg := by
  simp only [Entry.atBoundary]
  split <;> rfl

theorem atBoundary_member (e : Entry) (epoch : Nat) : (e.atBoundary epoch).member = e.member := by
  simp only [Entry.atBoundary]
  split <;> rfl

/-- A boundary keeps the invariant while at most one context is open: of three versions it keeps two. -/
theorem catOk_boundary {c : Cat} (ok : CatOk c) {xs : List Context} {x : Context}
    (alone : ∀ y ∈ xs, y.isOpen = true → y = x) : CatOk (c.boundary xs) := by
  simp only [Cat.boundary]
  refine catHas_release (P := Tagged) ?_ xs fun e _ h =>
    (consistent_iff _ _).2 ⟨tagged_keepNeeded h xs, keepNeeded_length_le h alone⟩
  refine catHas_map (catHas_disturb ok _) (fun e => e.atBoundary (c.epoch + 1)) rfl (fun e _ => atBoundary_seg _ _)
    (fun e he => ?_) fun closed e he => ?_
  · have was : e ∈ c.entries := disturb_entries c _ ▸ he
    exact tagged_atBoundary ((consistent_iff _ _).1 (ok.entry e was)).1
  · exact (atBoundary_member _ _).trans ((catHas_disturb ok _).members closed e he)

/-! ### The retire batch (R41 to R46) -/

/-- No entry is a batch member. -/
def NoMembers (c : Cat) : Prop := ∀ e ∈ c.entries, e.2.member = false

theorem noMembers_kept {c c' : Cat} (kept : CatKept c c') (h : NoMembers c) : NoMembers c' := by
  obtain ⟨⟨g, keeps, entries⟩, -⟩ := kept
  intro e he
  obtain ⟨e', he', rfl⟩ := List.mem_map.1 (entries ▸ he)
  exact (keeps e'.2).member.trans (h e' he')

theorem beginDueBatch_catOk {s : State} (ok : CatOk s.cat) : CatOk s.beginDueBatch.cat := by
  simp only [State.beginDueBatch]
  split
  · exact catOk_batch ok nofun
  · exact ok

theorem mem_members {c : Cat} (ok : CatOk c) {e : Nat × Entry} (he : e ∈ c.entries) (listed : e.2.seg ∈ c.members) :
    e.2.member = true := by
  obtain ⟨e', he', same⟩ := List.mem_map.1 listed
  obtain ⟨he', member⟩ := List.mem_filter.1 he'
  exact List.inj_on_of_nodup_map ok.segs he' he same ▸ member

theorem not_member_of_unlisted {c : Cat} {e : Nat × Entry} (he : e ∈ c.entries) (unlisted : e.2.seg ∉ c.members) :
    e.2.member = false := by
  by_contra member
  exact unlisted (List.mem_map.2 ⟨e, List.mem_filter.2 ⟨he, Bool.eq_true_of_not_eq_false member⟩, rfl⟩)

/-- What the withdrawal of some segments leaves of an entry (R45): RETIRING and no member, if its segment is among them. -/
def withdrawnEntry (segs : List Nat) (e : Entry) : Entry :=
  if e.seg ∈ segs then { e with state := .retiring, member := false } else e

theorem withdrawnEntry_seg (segs : List Nat) (e : Entry) : (withdrawnEntry segs e).seg = e.seg := by
  unfold withdrawnEntry
  split <;> rfl

theorem withdrawnEntry_members {c : Cat} {e : Nat × Entry} (he : e ∈ c.entries) :
    (withdrawnEntry c.members e.2).member = false := by
  unfold withdrawnEntry
  split
  · rfl
  · exact not_member_of_unlisted he ‹_›

theorem withdrawnEntry_consistent {c : Cat} (ok : CatOk c) {e : Nat × Entry} (he : e ∈ c.entries) :
    (withdrawnEntry c.members e.2).consistent c.epoch := by
  unfold withdrawnEntry
  split
  · obtain ⟨seg, pending, installed, retiring, member, rest⟩ := ok.entry e he
    obtain ⟨live, unstaged⟩ := member (mem_members ok he ‹_›)
    exact ⟨seg, fun hp => (nomatch hp), fun _ => installed (by rw [live]; decide), fun _ => unstaged,
      fun hm => (nomatch hm), rest⟩
  · exact ok.entry e he

/-- The members become RETIRING and are members no more. -/
theorem withdrawn_catOk {c : Cat} (ok : CatOk c) :
    CatOk ((c.disturb c.members).mapEntries (withdrawnEntry c.members)) ∧
      NoMembers ((c.disturb c.members).mapEntries (withdrawnEntry c.members)) := by
  have entries := disturb_entries c c.members
  refine ⟨catHas_map (catHas_disturb ok c.members) (withdrawnEntry c.members) rfl (fun e _ => withdrawnEntry_seg _ _)
    (fun e he => ?_) fun _ e he => withdrawnEntry_members (entries ▸ he), fun e he => ?_⟩
  · exact (disturb_epoch c c.members).symm ▸ withdrawnEntry_consistent ok (entries ▸ he)
  · obtain ⟨e', he', rfl⟩ := List.mem_map.1 he
    exact withdrawnEntry_members (entries ▸ he')

theorem withdrawMembers_catKept (s : State) (segs : List Nat) :
    CatKept ((s.cat.disturb segs).mapEntries (withdrawnEntry segs)) (s.withdrawMembers segs).cat := by
  simp only [State.withdrawMembers]
  refine catKept_trans (catKept_of_eq ?_) (catKept_trans (naturalEnd_catKept _ .A) (naturalEnd_catKept _ .B))
  rw [checkSlots_frame _ _ |>.2.1]
  rfl

theorem withdrawMembers_catOk {s : State} (ok : CatOk s.cat) :
    CatOk (s.withdrawMembers s.cat.members).cat ∧ NoMembers (s.withdrawMembers s.cat.members).cat := by
  obtain ⟨withdrawn, none_⟩ := withdrawn_catOk ok
  have kept := withdrawMembers_catKept s s.cat.members
  exact ⟨catOk_kept kept withdrawn, noMembers_kept kept none_⟩

theorem vacateMembers_catOk {s : State} (ok : CatOk s.cat) (none_ : NoMembers s.cat) (segs : List Nat) :
    CatOk (s.vacateMembers segs).cat :=
  catHas_filter (catHas_disturb ok segs) (fun e => !(decide (e.2.seg ∈ segs)))
    (congrArg (List.filter _) (disturb_entries s.cat segs).symm) rfl
    fun _ e he _ => none_ e (disturb_entries s.cat segs ▸ he)

/-! ### Every command -/

theorem endExposureOf_catKept (c : Ctx) (s : State) : CatKept s.cat (s.endExposureOf c).1.cat := by
  simp only [State.endExposureOf]
  split
  · exact catKept_of_eq (by simp)
  · split
    · exact beginEnd_catKept s c _
    · exact catKept_refl _
  all_goals exact catKept_refl _

theorem endExposure_catKept (f : Frame) (s : State) : CatKept s.cat (State.endExposure f s).1.cat := by
  simp only [State.endExposure]
  split
  · exact catKept_refl _
  · split
    · exact catKept_refl _
    · exact endExposureOf_catKept _ s

theorem closeShutter_catKept (s : State) : CatKept s.cat (State.closeShutter s).1.cat := by
  simp only [State.closeShutter]
  split
  · exact catKept_refl _
  · split
    · exact closeContext_catKept s _
    · exact catKept_refl _

theorem setParameter_catKept (f : Frame) (s : State) : CatKept s.cat (State.setParameter f s).1.cat := by
  simp only [State.setParameter]
  split
  · exact catKept_refl _
  · split
    · exact catKept_refl _
    · rename_i g _
      simp only [State.afterWrite]
      split
      · exact catKept_of_eq (by simp)
      · split <;> exact catKept_refl _
      · exact foldl_catKept State.followLink followLink_catKept _ { s with params := g }
      · exact catKept_refl _

theorem exec_catalogueConsistent {c : Instr} {s t : State} (exposure : s.exposureConsistent) (h : s.catalogueConsistent)
    (run : exec c s = .next t) : t.catalogueConsistent := by
  have ok := (catalogueConsistent_iff s).1 h
  have kept {u : State} (k : CatKept s.cat u.cat) : u.catalogueConsistent := catalogueConsistent_of_catKept k h
  have sameCat {u : State} (k : u.cat = s.cat) : u.catalogueConsistent := kept (catKept_of_eq k)
  by_cases quiet : quietCommand c = true
  · obtain ⟨_, _, _, rfl, -⟩ := exec_quiet quiet run
    exact h
  by_cases catalogue : catalogueCommand c = true
  · exact catalogueCommand_catalogueConsistent catalogue run h
  have request {k : RequestClass} {fits : Bool} {f : Frame} {owner : State → State × Answer}
      (keeps : ∀ u : State, u.catalogueConsistent → (owner u).1.catalogueConsistent) :
      (s.request k fits f owner).catalogueConsistent := request_keeps catalogueConsistent_ignoresReply keeps h
  cases c
  case commit f =>
    refine Host.Outcome.next.inj run ▸ request fun u hu => ?_
    simp only [State.commitRequest]
    repeat' split
    all_goals exact hu
  case signCatalogue f =>
    refine Host.Outcome.next.inj run ▸ request fun u hu => ?_
    simp only [State.signRequest]
    split <;> exact hu
  case flush f =>
    refine Host.Outcome.next.inj run ▸ request fun u hu => ?_
    simp only [State.flushRequest]
    split <;> exact hu
  case openExposure =>
    refine Host.Outcome.next.inj run ▸ request fun u hu => ?_
    simp only [State.openExposure]
    repeat' split
    all_goals exact hu
  case closeShutter =>
    exact Host.Outcome.next.inj run ▸ request fun u => catalogueConsistent_of_catKept (closeShutter_catKept u)
  case endExposure f =>
    exact Host.Outcome.next.inj run ▸ request fun u => catalogueConsistent_of_catKept (endExposure_catKept f u)
  case releaseExposure f =>
    refine Host.Outcome.next.inj run ▸ request fun u hu => ?_
    simp only [State.releaseExposure]
    repeat' split
    all_goals exact hu
  case setParameter f =>
    exact Host.Outcome.next.inj run ▸ request fun u => catalogueConsistent_of_catKept (setParameter_catKept f u)
  case resetPart f => exact Host.Outcome.next.inj run ▸ request fun _ _ => reset_catalogueConsistent
  case fullReset => exact Host.Outcome.next.inj run ▸ reset_catalogueConsistent
  case openingEdge =>
    simp only [exec, execOpeningEdge] at run
    (repeat' split at run) <;> obtain rfl := Host.Outcome.next.inj run <;> exact sameCat (by simp)
  case closingEdge =>
    simp only [exec, execClosingEdge] at run
    (repeat' split at run) <;> obtain rfl := Host.Outcome.next.inj run
    · exact h
    · exact h
    · exact h
    · exact kept (takeClosing_catKept s)
  case pauseLineRise =>
    simp only [exec, execPauseLineRise] at run
    split at run <;> obtain rfl := Host.Outcome.next.inj run <;> exact h
  case pauseLineFall => exact Host.Outcome.next.inj run ▸ sameCat (by simp)
  case wordSyncFound p => exact Host.Outcome.next.inj run ▸ sameCat (by simp)
  case wordSyncLost p =>
    simp only [exec, execWordSyncLost] at run
    split at run <;> obtain rfl := Host.Outcome.next.inj run
    · exact kept (goDown_catKept (s.changePort p _) p)
    · exact h
  case stripHeader p words =>
    simp only [exec, execStripHeader] at run
    (repeat' split at run) <;> obtain rfl := Host.Outcome.next.inj run
    · exact h
    · exact kept (takeHeader_catKept s p _ _)
    · exact kept (breakReceiving_catKept s p)
  case row p words =>
    simp only [exec, execRow] at run
    split at run <;> obtain rfl := Host.Outcome.next.inj run
    · exact kept (takeRow_catKept s p _)
    · exact h
  case stripEnd p words =>
    simp only [exec, execStripEnd] at run
    (repeat' split at run) <;> obtain rfl := Host.Outcome.next.inj run
    · exact h
    · exact kept (takeEnd_catKept s p _)
    · exact kept (breakReceiving_catKept s p)
  case verdictSent p =>
    simp only [exec, execVerdictSent] at run
    split at run <;> obtain rfl := Host.Outcome.next.inj run <;> exact h
  case batchWindowExpiry =>
    simp only [exec, execBatchWindowExpiry] at run
    split at run <;> obtain rfl := Host.Outcome.next.inj run
    · exact (catalogueConsistent_iff _).2
        (beginDueBatch_catOk (s := { s with cat.batch := .due }) (catOk_batch ok nofun))
    · exact h
  case batchApplicationBegin =>
    simp only [exec, execBatchApplicationBegin] at run
    split at run <;> obtain rfl := Host.Outcome.next.inj run
    · exact (catalogueConsistent_iff _).2 (catOk_kept
        (abandonWhere_catKept { s with cat.batch := .applying true } _ _) (catOk_batch ok nofun))
    · exact h
  case batchWithdrawal =>
    simp only [exec, execBatchWithdrawal] at run
    split at run <;> obtain rfl := Host.Outcome.next.inj run
    · obtain ⟨withdrawn, none_⟩ := withdrawMembers_catOk ok
      refine (catalogueConsistent_iff _).2 ?_
      rw [takeHead_frame _ |>.2.1]
      exact catOk_kept (serveLatch_catKept _) (vacateMembers_catOk withdrawn none_ _)
    · exact h
  case gatherTimerExpiry c =>
    simp only [exec, execGatherTimerExpiry] at run
    split at run <;> obtain rfl := Host.Outcome.next.inj run
    · exact kept (beginEnd_catKept s c _)
    · exact h
  case forcedClose c =>
    simp only [exec, execForcedClose] at run
    split at run <;> obtain rfl := Host.Outcome.next.inj run <;> exact sameCat (by simp)
  case openingComplete =>
    simp only [exec, execOpeningComplete] at run
    split at run <;> obtain rfl := Host.Outcome.next.inj run
    · exact h
    · rename_i o opening
      have free := (((exposureConsistent_iff s).1 exposure).opening o opening).1
      have alone : ∀ y ∈ s.exc.contexts, y.isOpen = true → y = s.exc.ctx (otherCtx o.ctx) := by
        intro y hy open_
        simp only [Exc.contexts, List.mem_cons, List.not_mem_nil, or_false] at hy
        cases hc : o.ctx <;> rw [hc] at free <;> rcases hy with rfl | rfl
        · exact absurd open_ (by rw [isOpen_eq, show s.exc.ctxA.state = .free from free]; decide)
        · rfl
        · rfl
        · exact absurd open_ (by rw [isOpen_eq, show s.exc.ctxB.state = .free from free]; decide)
      exact (catalogueConsistent_iff _).2 (catOk_kept (serveLatch_catKept _)
        (beginDueBatch_catOk (s := State.changeCtx { s with cat := _, exc.opening := none } _ _) (catOk_boundary ok alone)))
  case commitBoundaryComplete =>
    simp only [exec, execCommitBoundaryComplete] at run
    split at run <;> obtain rfl := Host.Outcome.next.inj run
    · rename_i due
      have shut := (((exposureConsistent_iff s).1 exposure).commit due.1).1
      have alone : ∀ y ∈ s.exc.contexts, y.isOpen = true → y = s.exc.ctxA := by
        intro y hy open_
        simp only [Exc.contexts, List.mem_cons, List.not_mem_nil, or_false] at hy
        rcases hy with rfl | rfl
        · rfl
        · exact absurd open_ (by rw [show s.exc.ctxB.isOpen = false from shut .B]; decide)
      refine (catalogueConsistent_iff _).2 (catOk_kept (serveLatch_catKept _) (beginDueBatch_catOk ?_))
      simpa using catOk_boundary ok alone
    · exact h
  case signatureEntryStep =>
    simp only [exec, execSignatureEntryStep] at run
    (repeat' split at run) <;> obtain rfl := Host.Outcome.next.inj run <;> exact h
  case signatureStampStep =>
    simp only [exec, execSignatureStampStep] at run
    split at run <;> obtain rfl := Host.Outcome.next.inj run
    · refine (catalogueConsistent_iff _).2 (catHas_congr ok ?_ ?_ ?_) <;> simp
    · exact h
  case flushFirstStep =>
    simp only [exec, execFlushFirstStep] at run
    split at run <;> obtain rfl := Host.Outcome.next.inj run
    · refine kept ?_
      rw [flushQueue_frame _ |>.2.1]
      have abandoned := abandonWhere_catKept (State.attempt
        { s with exc.flushing := true, exc.ctxA.timer := none, exc.ctxB.timer := none }) (fun _ => true) .flushed
      rwa [attempt_frame _ |>.2.1] at abandoned
    · exact h
  case flushComplete =>
    simp only [exec, execFlushComplete] at run
    split at run <;> obtain rfl := Host.Outcome.next.inj run
    · refine (catalogueConsistent_iff _).2 ?_
      rw [takeHead_frame _ |>.2.1]
      refine catOk_kept (serveLatch_catKept _) (beginDueBatch_catOk ?_)
      rw [completeLong_frame _ _ _ |>.2.1]
      exact catOk_release (by simpa using ok) _
    · exact h
  case rowReserve =>
    simp only [exec, execRowReserve] at run
    (repeat' split at run) <;> obtain rfl := Host.Outcome.next.inj run <;> exact sameCat (by simp)
  case cellOpeningComplete =>
    simp only [exec, execCellOpeningComplete] at run
    (repeat' split at run) <;> obtain rfl := Host.Outcome.next.inj run <;> exact sameCat (by simp)
  case pixelPlace found =>
    simp only [exec, execPixelPlace] at run
    (repeat' split at run) <;> obtain rfl := Host.Outcome.next.inj run <;> exact sameCat (by simp)
  case rowAdvance =>
    simp only [exec, execRowAdvance] at run
    split at run
    · exact Host.Outcome.next.inj run ▸ h
    · rename_i k _
      split at run
      · split at run <;> obtain rfl := Host.Outcome.next.inj run
        · exact sameCat (by simp)
        · refine kept ?_
          rw [takeHead_frame _ |>.2.1]
          exact catKept_trans (catKept_of_eq (by simp)) (completeCommit_catKept _ k)
      · exact Host.Outcome.next.inj run ▸ h
  case preparationEnd found =>
    simp only [exec, execPreparationEnd] at run
    split at run <;> obtain rfl := Host.Outcome.next.inj run <;> exact sameCat (by simp)
  case unitSent =>
    simp only [exec, execUnitSent] at run
    (repeat' split at run) <;> obtain rfl := Host.Outcome.next.inj run <;> exact sameCat (by simp)
  case trailerSent =>
    simp only [exec, execTrailerSent] at run
    (repeat' split at run) <;> obtain rfl := Host.Outcome.next.inj run
    · exact h
    · refine (catalogueConsistent_iff _).2 ?_
      rw [takeHead_frame _ |>.2.1]
      exact catOk_release ok _
    · exact h
  case abortMarkerSent =>
    simp only [exec, execAbortMarkerSent] at run
    split at run <;> obtain rfl := Host.Outcome.next.inj run <;> exact sameCat (by simp)
  case startupClearingEnd =>
    simp only [exec, execStartupClearingEnd] at run
    split at run <;> obtain rfl := Host.Outcome.next.inj run <;> exact sameCat (by simp)
  all_goals simp_all [quietCommand, catalogueCommand]

theorem tick_catalogueConsistent {s : State} (h : s.catalogueConsistent) : s.tick.catalogueConsistent := by
  refine (catalogueConsistent_iff _).2 (catHas_congr ((catalogueConsistent_iff s).1 h) rfl rfl fun closed => ?_)
  change s.cat.batch.tick = .closed at closed
  cases hb : s.cat.batch <;> rw [hb] at closed
  all_goals nomatch closed

/-- Settles O58: by cases on the command at the front of the queue. A boundary adds a version; that it leaves two needs the
invariant of exposure control, by which at most one context is open then. -/
theorem catalogueStaysConsistent : Obligations.CatalogueStaysConsistent := by
  intro s t exposure h run
  cases pending : s.pending with
  | nil =>
    rw [step_of_empty pending] at run
    exact Host.Outcome.next.inj run ▸ tick_catalogueConsistent h
  | cons c rest =>
    rw [step_of_cons pending] at run
    exact exec_catalogueConsistent (s := { s with pending := rest }) exposure h run

end Sys2Proof.Proofs

/-! ## Proofs: the command port's own requests (chapter 9) -/

namespace Sys2Proof.Proofs

open Sys2Proof Sys2Proof.Machine Sys2Proof.Laws

/-! ### What every request has in common (R163, R164) -/

section Requests

variable {s t : State} {f : Frame} {fits : Bool} {owner : State → State × Answer} {a : Answer}

/-- A taken request leaves what its owner leaves, with the reply placed. -/
theorem request_places (hr : s.part = .ready) (hfits : fits = true) (ho : owner (ownerView s f) = (t, a)) :
    s.request .ordinary fits f owner = t.place f.tag a := by
  subst hfits
  rw [request_taken s .ordinary f owner (.inl hr)]
  change (owner (ownerView s f)).1.place f.tag (owner (ownerView s f)).2 = _
  rw [ho]

/-- A taken READ request whose owner captures an answer (R166). -/
theorem request_captures {items : List Byte} (hr : s.part = .ready) (hfits : fits = true)
    (ho : owner (ownerView s f) = (ownerView s f).capture items) :
    s.request .ordinary fits f owner = s.captured f items := request_places hr hfits ho

/-- How the request of a kind meets STARTING and the cursor. -/
def classOf (kind : Nat) : RequestClass :=
  if kind = 0x01 ∨ kind = 0x02 then .always else if kind = 0x60 then .more else .ordinary

/-- Every request a kind names goes the way of all requests: with its class, a test of the payload's length that is the
length of 10.1 where there is one, and an owner. -/
theorem exec_request {c : Instr} {k : Byte} (h : requestOf k f = some c) (untaken : watchRequest c = true → s.cmd.taken = []) :
    ∃ fits owner, exec c s = .next (s.request (classOf k.toNat) fits f owner) ∧
      ∀ n, fixedLength k.toNat = some n → fits = f.fits n := by
  unfold requestOf at h
  split at h
  case h_34 => nomatch h
  all_goals
    rename_i kind
    obtain rfl := Option.some.inj h
    rw [kind]
  case h_24 => exact ⟨_, _, exec_setWatch_of_untaken (untaken rfl), fun n hn => by cases hn; rfl⟩
  case h_25 => exact ⟨_, _, exec_clearWatch_of_untaken (untaken rfl), fun n hn => by cases hn; rfl⟩
  case h_28 => exact ⟨_, _, exec_acknowledge_of_untaken (untaken rfl), fun n hn => by cases hn; rfl⟩
  all_goals exact ⟨_, _, rfl, fun n hn => by cases hn <;> rfl⟩

theorem classOf_always (k : Byte) : classOf k.toNat = .always ↔ k = 0x01 ∨ k = 0x02 := by
  rw [← BitVec.toNat_inj, ← BitVec.toNat_inj]
  change _ ↔ k.toNat = 0x01 ∨ k.toNat = 0x02
  unfold classOf
  split
  · simpa
  · rename_i h
    split <;> simp [h]

theorem classOf_ordinary (k : Byte) : classOf k.toNat = .ordinary ↔ ¬(k = 0x01 ∨ k = 0x02 ∨ k = 0x60) := by
  rw [← BitVec.toNat_inj, ← BitVec.toNat_inj, ← BitVec.toNat_inj]
  change _ ↔ ¬(k.toNat = 0x01 ∨ k.toNat = 0x02 ∨ k.toNat = 0x60)
  unfold classOf
  split
  · rename_i h
    exact ⟨fun differ => (nomatch differ), fun none_ => absurd (h.imp_right .inl) none_⟩
  · split <;> simp_all

/-- A payload whose length does not fit is answered INVALID 47 and cancels the cursor by the request's class. -/
theorem request_misfit_answered {k : RequestClass} (h : s.part = .ready ∨ k = .always) (misfit : fits = false) :
    s.request k fits f owner =
      s.answeredWith f (if k = .ordinary then none else s.cmd.cursor) .invalid [47] := by
  subst misfit
  rw [request_misfit s k f owner h]
  cases k <;> rfl

end Requests

/-- Settles O5: the cursor stands past the answer, or within it, or nowhere. -/
theorem readMoreReturnsTheNextChunk : Obligations.ReadMoreReturnsTheNextChunk := by
  intro s f hr hp
  have run : exec (.readMore f) s = .next ((State.readMore (s.clockOut f.length)).1.place f.tag
      (State.readMore (s.clockOut f.length)).2) := by
    have fits : f.fits 0 = true := by rw [fits_iff, hp]; rfl
    have taken := request_taken s .more f State.readMore (.inl hr)
    exact congrArg Host.Outcome.next (fits ▸ taken)
  rw [run]
  refine ⟨fun none_ => ?_, fun c at_ below => ?_, fun c at_ past => ?_⟩
  · simp [State.readMore, State.place, State.answeredWith, State.clockOut, Answer.refuse, none_]
  · simp [State.readMore, State.place, State.answeredWith, State.clockOut, at_, below, Config.payloadMax]
  · simp [State.readMore, State.place, State.answeredWith, State.clockOut, Answer.refuse, at_, Nat.not_lt.2 past]

/-- Settles O7: a reset is written out field by field; the head of an empty queue is not taken at start-up. -/
theorem fullResetAndStartupReachEveryBlock : Obligations.FullResetAndStartupReachEveryBlock := by
  refine ⟨fun s => ⟨rfl, fun f hr hp => ?_⟩, fun s starting empty => ?_⟩
  · have fits : f.fits 0 = true := by rw [fits_iff, hp]; rfl
    have reply : flagBytes 0 ++ bytesOf 1 0 = [0, 0, 0] := by decide
    have answered : State.resetPart (ownerView s f) = ((ownerView s f).fullReset, { status := .ok, payload := [0, 0, 0] }) :=
      congrArg (fun p => ((ownerView s f).fullReset, Answer.mk .ok p)) reply
    exact congrArg Host.Outcome.next (request_places hr fits answered)
  · refine ⟨{ s with part := .ready, ctb.memory := [], cop.state := .idle }, ?_, rfl, fun a => rfl⟩
    simp only [exec, execStartupClearingEnd, starting, if_true, State.takeHead]
    rw [empty]
    simp

/-- Settles O8: a watch request taken ahead of its turn gives out its bytes; NOP answers; what is not taken is refused
before its owner sees it. -/
theorem nopAndRequestsNotTakenChangeOnlyTheReply : Obligations.NopAndRequestsNotTakenChangeOnlyTheReply := by
  refine ⟨fun c s out rest watch taken => ?_, fun s f hp => ?_, fun _ _ _ _ => rfl,
    fun c k f s named notNop notStatus untaken starting => ?_⟩
  · have turn : exec c s = .next (s.inTurn c) := by cases c <;> first | rfl | nomatch watch
    rw [turn]
    simp only [State.inTurn, taken]
  · have fits : f.fits 0 = true := by rw [fits_iff, hp]; rfl
    have taken := request_taken s .always f (fun s => (s, .ok)) (.inr rfl)
    exact congrArg Host.Outcome.next (fits ▸ taken)
  · obtain ⟨fits, owner, run, -⟩ := exec_request (s := s) named untaken
    have notAlways : classOf k.toNat ≠ .always := fun h => ((classOf_always k).1 h).elim notNop notStatus
    rw [run, request_starting s _ fits f owner starting notAlways]
    rfl

/-- The value bytes of PUT FIELD by the field code (R179). -/
theorem fitsPutField_eq_false {f : Frame} (h1 : 1 ≤ f.nat 0 1) (h30 : f.nat 0 1 ≤ 30)
    (hlen : f.payload.length ≠ 1 + if f.nat 0 1 ∈ [13, 14] then 1 else if f.nat 0 1 ∈ [1, 2, 9, 10, 12] then 2
      else if f.nat 0 1 ∈ [3, 4, 5, 6, 7, 8] then 4 else if f.nat 0 1 = 11 then 1 + 2 * f.nat 1 1 else 5) :
    f.fitsPutField = false := by
  simp only [Frame.fitsPutField]
  split
  · rfl
  · rw [if_neg (by omega)]
    split
    · rename_i flat
      simp only [flat, List.mem_cons, List.not_mem_nil] at hlen
      simp only [Bool.and_eq_false_iff, beq_eq_false_iff_ne]
      right
      simpa [← Nat.add_assoc] using hlen
    · rename_i other
      refine beq_eq_false_iff_ne.2 fun same => hlen (same.trans ?_)
      simp only [fieldWidth, List.mem_cons, List.not_mem_nil, or_false, if_neg other, Nat.add_left_cancel_iff]
      split
      · rfl
      · split
        · rfl
        · split
          · rw [if_pos (by omega)]
          · rw [if_neg (by omega)]

/-- Settles O9: the length is checked before the owner acts, for the requests of one length by 10.1, for PUT FIELD and
READ CELL by the code their payload begins with. -/
theorem wrongPayloadLengthIsInvalid47 : Obligations.WrongPayloadLengthIsInvalid47 := by
  refine ⟨fun c k f n s named untaken fixed wrong taken => ?_, fun s f hr => ⟨fun h => ?_, fun h => ?_⟩⟩
  · obtain ⟨fits, owner, run, length⟩ := exec_request (s := s) named untaken
    have misfit : fits = false := by
      rw [length n fixed, Frame.fits, beq_eq_false_iff_ne]
      exact wrong
    rw [run, request_misfit_answered (taken.imp_right (classOf_always k).2) misfit]
    by_cases kept : k = 0x01 ∨ k = 0x02 ∨ k = 0x60
    · rw [if_neg fun h => (classOf_ordinary k).1 h kept, if_pos kept]
    · rw [if_pos ((classOf_ordinary k).2 kept), if_neg kept]
  · have misfit : f.fitsPutField = false := by
      rcases h with empty | ⟨h1, h30, hlen⟩
      · simp [Frame.fitsPutField, empty]
      · exact fitsPutField_eq_false h1 h30 hlen
    exact congrArg Host.Outcome.next (request_misfit_answered (k := .ordinary) (.inl hr) misfit)
  · have misfit : f.fitsReadCell = false := by
      simp only [Frame.fitsReadCell]
      rcases h with empty | ⟨code, hlen⟩ | ⟨code, hlen⟩
      · simp [empty]
      all_goals simp [code, hlen]
    exact congrArg Host.Outcome.next (request_misfit_answered (k := .ordinary) (.inl hr) misfit)

/-! ### READ PARAMETER (R172) -/

theorem params_value (g : Params) {i : Nat} (h : i < 10) : g.value (i + 1) = g.values.getD i 0 := by
  have flag (b : Bool) : flagNat b = b.toNat := by cases b <;> rfl
  have sense : g.value 7 = g.values.getD 6 0 := by
    simp only [Params.value, Params.values]
    cases g.shutterSense <;> rfl
  match i with
  | 3 | 4 | 5 => exact flag _
  | 6 => exact sense
  | 0 | 1 | 2 | 7 | 8 | 9 => rfl
  | _ + 10 => omega

theorem params_bytes (g : Params) {i : Nat} (h : i < 10) :
    g.bytes (i + 1) = bytesOf 1 (i + 1) ++ bytesOf 4 (g.values.getD i 0) := by
  rw [Params.bytes, params_value g h]

/-- Settles O11: ALL, one code, or none of the ten. -/
theorem readParameterGivesCodeAndValue : Obligations.ReadParameterGivesCodeAndValue := by
  intro s f hr hlen
  have fits : f.fits 1 = true := (fits_iff f 1).2 hlen
  have captures {items : List Byte} (ho : State.readParameter f (ownerView s f) = (ownerView s f).capture items) :
      exec (.readParameter f) s = .next (s.captured f items) := congrArg Host.Outcome.next (request_captures hr fits ho)
  refine ⟨fun all => captures ?_, fun i hi code => captures ?_, fun bad => ?_⟩
  · have bytes : [1, 2, 3, 4, 5, 6, 7, 8, 9, 10].flatMap s.params.bytes =
        (List.range 10).flatMap fun i => bytesOf 1 (i + 1) ++ bytesOf 4 (s.params.values.getD i 0) := by
      rw [show [1, 2, 3, 4, 5, 6, 7, 8, 9, 10] = (List.range 10).map (· + 1) from rfl, List.flatMap_map]
      exact List.flatMap_congr fun i hi => params_bytes s.params (List.mem_range.1 hi)
    simp only [State.readParameter, if_pos all]
    exact congrArg (ownerView s f).capture bytes
  · simp only [State.readParameter]
    rw [if_neg (by omega), if_neg (by omega), code]
    exact congrArg (ownerView s f).capture (params_bytes s.params hi)
  · refine congrArg Host.Outcome.next (request_only_answers (a := .invalid 48) hr fits ?_)
    simp only [State.readParameter]
    rw [if_neg (by omega), if_pos (by omega)]

/-! ### The bytes of an answer (R175) -/

@[simp] theorem bytesOf_length (n v : Nat) : (bytesOf n v).length = n := by
  induction n generalizing v with
  | zero => rfl
  | succ n ih => rw [bytesOf, List.length_cons, ih]

@[simp] theorem flagByte_length (b : Bool) : (flagByte b).length = 1 := bytesOf_length 1 _

@[simp] theorem countBytes_length (n : Nat) : (countBytes n).length = 4 := bytesOf_length 4 n

theorem bytesOf_one (v : Nat) : bytesOf 1 v = [BitVec.ofNat 8 v] := by simp [bytesOf]

theorem natOf_cons (b : Byte) (bs : List Byte) : natOf (b :: bs) = b.toNat * 256 ^ bs.length + natOf bs := by
  induction bs using List.reverseRecOn with
  | nil => simp [natOf]
  | append_singleton bs c ih =>
    have step (l : List Byte) : natOf (l ++ [c]) = natOf l * 256 + c.toNat := by simp [natOf]
    rw [← List.cons_append, step, step, ih, List.length_append, List.length_singleton, Nat.pow_succ]
    ring

/-- The bytes of a number read back as the number, as far as their count holds it. -/
theorem natOf_bytesOf (n v : Nat) : natOf (bytesOf n v) = v % 256 ^ n := by
  induction n generalizing v with
  | zero => simp [bytesOf, natOf, Nat.mod_one]
  | succ n ih =>
    rw [bytesOf, natOf_cons, ih, bytesOf_length, BitVec.toNat_ofNat, show 256 ^ (n + 1) = 256 ^ n * 256 from rfl, Nat.mod_mul,
      Nat.mul_comm, Nat.add_comm]

/-- Where one part of an answer ends, the next begins. -/
theorem drop_next {l a b : List Byte} {i n : Nat} (h : l.drop i = a ++ b) (length : a.length = n) : l.drop (i + n) = b := by
  rw [← List.drop_drop, h, ← length, List.drop_left]

/-- A part of an answer, by where it begins and its length. -/
theorem take_part {l a b : List Byte} {i n : Nat} (h : l.drop i = a ++ b) (length : a.length = n) :
    (l.drop i).take n = a := by
  rw [h, ← length, List.take_left]

/-! ### READ COUNTERS (R169) -/

@[simp] theorem counterBytes_length (q : Port) : q.counterBytes.length = 18 := by simp [Port.counterBytes]

@[simp] theorem ple_counterBytes_length (e : Ple) : e.counterBytes.length = 9 := by
  simp only [Ple.counterBytes, List.length_append, flagByte_length, bytesOf_length]
  split <;> simp [absentBytes]

theorem ports_toList (ports : Vector Port 4) : ports.toList = [ports[0], ports[1], ports[2], ports[3]] := by
  rcases ports with ⟨⟨l⟩, hl⟩
  match l, hl with
  | [a, b, c, d], _ => rfl

/-- The answer of READ COUNTERS, item by item. -/
theorem counterBytes_eq (s : State) : s.counterBytes =
    s.ports[0].counterBytes ++ (s.ports[1].counterBytes ++ (s.ports[2].counterBytes ++ (s.ports[3].counterBytes ++
      (s.ple.counterBytes ++ (countBytes s.ctb.corrected ++ ((bytesOf 1 s.cop.state.code ++ flagByte s.cop.pause) ++
        (s.cop.state.itemBytes ++ countBytes s.cmd.frameErrors))))))) := by
  simp [State.counterBytes, ports_toList]

/-- Settles O12: each item stands behind items of known lengths. -/
theorem readCountersCapturesEveryCounter : Obligations.ReadCountersCapturesEveryCounter := by
  intro s f hr hp
  have fits : f.fits 0 = true := by rw [fits_iff, hp]; rfl
  have port0 : s.counterBytes.drop 0 = _ := counterBytes_eq s
  have port1 := drop_next port0 (counterBytes_length _)
  have port2 := drop_next port1 (counterBytes_length _)
  have port3 := drop_next port2 (counterBytes_length _)
  have engine := drop_next port3 (counterBytes_length _)
  have corrected := drop_next engine (ple_counterBytes_length _)
  have output := drop_next corrected (countBytes_length _)
  have item := drop_next output (n := 2) (by simp)
  have running : s.counterBytes.drop 72 = (flagByte s.ple.commit.isSome ++ bytesOf 1 s.ple.lastServed.val) ++ _ :=
    engine.trans (by rw [Ple.counterBytes, List.append_assoc])
  refine ⟨s.counterBytes, congrArg Host.Outcome.next (request_captures hr fits rfl), fun p => ?_,
    take_part running (by simp), fun k hk => ?_, take_part corrected (countBytes_length _), take_part output (by simp),
    fun n hn => ?_, fun n h rows u held hn => ?_, fun r point hn => ?_, ?_⟩
  · have port : (s.counterBytes.drop (18 * p.val)).take 18 = s.ports[p].counterBytes := by
      fin_cases p
      · exact take_part port0 (counterBytes_length _)
      · exact take_part port1 (counterBytes_length _)
      · exact take_part port2 (counterBytes_length _)
      · exact take_part port3 (counterBytes_length _)
    exact port
  · have commit := drop_next running (n := 2) (by simp)
    rw [hk] at commit
    exact take_part commit (by simp)
  · rw [hn] at item
    exact take_part (a := bytesOf 1 0 ++ bytesOf 2 n) (item.trans (List.append_assoc _ _ _)) (by simp)
  · rw [hn] at item
    exact take_part item (by simp)
  · rw [hn] at item
    exact take_part item (by simp)
  · rw [State.counterBytes, List.length_append, countBytes_length, Nat.add_sub_cancel, List.drop_left]
    rfl

/-! ### STATUS (R168) -/

theorem lastResultBytes_length (r : Option LongResult) (n : Nat) : (lastResultBytes r n).length = 7 := by
  cases r <;> simp [lastResultBytes]

theorem contextStatusBytes_length (x : Context) : x.statusBytes.length = 3 := by simp [Context.statusBytes]

/-- One byte of an answer. -/
theorem getElem_part {l b : List Byte} {i v : Nat} (h : l.drop i = bytesOf 1 v ++ b) : l[i]? = some (BitVec.ofNat 8 v) := by
  have head : (l.drop i)[0]? = some (BitVec.ofNat 8 v) := by rw [h, bytesOf_one]; rfl
  rwa [List.getElem?_drop] at head

/-- A number in an answer. -/
theorem natOf_part {l b : List Byte} {i n v : Nat} (h : l.drop i = bytesOf n v ++ b) :
    natOf ((l.drop i).take n) = v % 256 ^ n := by
  rw [take_part h (bytesOf_length n v), natOf_bytesOf]

/-- The answer of STATUS, item by item. -/
theorem statusBytes_eq (s : State) : s.statusBytes =
    bytesOf 1 s.part.code ++ (bytesOf 1 (s.cmd.long.elim 0 fun l => l.kind.code) ++ (lastResultBytes s.cmd.last s.cmd.free
      ++ (bytesOf 2 s.att.flags.toNat ++
      (bytesOf 2 s.att.enables.toNat ++ (s.exc.ctxA.statusBytes ++ (s.exc.ctxB.statusBytes ++
        (bytesOf 2 (Config.entryCount - s.cat.entries.length) ++ (bytesOf 2 (s.cat.countIn .pending) ++
          (bytesOf 2 (s.cat.countIn .live) ++ (bytesOf 2 (s.cat.countIn .retiring) ++ (bytesOf 4 s.cat.epoch ++
            (bytesOf 2 (Config.slotCount - s.ctb.slots.length) ++ (bytesOf 2 s.ctb.queue.length ++
              (flagByte s.cat.batch.isOpen ++ bytesOf 1 s.cat.sign.status.code)))))))))))))) := by
  simp only [State.statusBytes, Cat.statusBytes, List.append_assoc]
  cases s.cmd.long <;> rfl

theorem countIn_eq (c : Cat) (st : EntryState) : c.countIn st = (c.entries.filter fun e => e.2.state == st).length :=
  List.countP_eq_length_filter

theorem flags_toNat_mod (flags : BitVec 9) : flags.toNat % 256 ^ 2 = flags.toNat := Nat.mod_eq_of_lt (by omega)

/-- Settles O4: each item stands behind items of known lengths. -/
theorem statusReplyShowsTheStateOfThePart : Obligations.StatusReplyShowsTheStateOfThePart := by
  intro s f hp
  have fits : f.fits 0 = true := by rw [fits_iff, hp]; rfl
  have taken := request_taken s .always f State.readStatus (.inr rfl)
  have part : s.statusBytes.drop 0 = _ := statusBytes_eq s
  have long := drop_next part (bytesOf_length 1 _)
  have last := drop_next long (bytesOf_length 1 _)
  have flags := drop_next last (lastResultBytes_length _ _)
  have enables := drop_next flags (bytesOf_length 2 _)
  have ctxA := drop_next enables (bytesOf_length 2 _)
  have ctxB := drop_next ctxA (contextStatusBytes_length _)
  have vacant := drop_next ctxB (contextStatusBytes_length _)
  have pending := drop_next vacant (bytesOf_length 2 _)
  have live := drop_next pending (bytesOf_length 2 _)
  have retiring := drop_next live (bytesOf_length 2 _)
  have epoch := drop_next retiring (bytesOf_length 2 _)
  have slots := drop_next epoch (bytesOf_length 4 _)
  have queue := drop_next slots (bytesOf_length 2 _)
  have batch := drop_next queue (bytesOf_length 2 _)
  have sign := drop_next batch (flagByte_length _)
  refine ⟨s.statusBytes, congrArg Host.Outcome.next (fits ▸ taken), ?_, ?_, ?_, fun none_ => ?_, fun r some_ => ?_,
    (natOf_part flags).trans (flags_toNat_mod _), (natOf_part enables).trans (flags_toNat_mod _), ?_, ?_, ?_, ?_,
    natOf_part vacant, ?_, ?_, ?_, natOf_part epoch, natOf_part slots, natOf_part queue, ?_, ?_⟩
  · rw [statusBytes_eq]
    simp [lastResultBytes_length, contextStatusBytes_length]
  · rw [getElem_part part]
    cases s.part <;> rfl
  · rw [getElem_part long]
    cases s.cmd.long with
    | none => rfl
    | some l =>
      simp only [Option.elim_some, Option.map_some]
      cases l.kind <;> rfl
  · rw [none_] at last
    exact getElem_part (last.trans (List.append_assoc _ _ _))
  · rw [some_, lastResultBytes] at last
    simp only [List.append_assoc] at last
    have tag := drop_next last (bytesOf_length 1 _)
    have result := drop_next tag (n := 1) rfl
    have value := drop_next result (bytesOf_length 1 _)
    refine ⟨?_, ?_, ?_, fun v hv => ?_⟩
    · rw [getElem_part last]
      cases r.kind <;> rfl
    · have head : (s.statusBytes.drop 3)[0]? = some r.tag := by rw [tag]; rfl
      rwa [List.getElem?_drop] at head
    · rw [getElem_part result]
      cases r.result <;> rfl
    · rw [natOf_part value, hv]
      exact Nat.mod_eq_of_lt v.isLt
  · rw [Context.statusBytes, List.append_assoc] at ctxA
    exact getElem_part ctxA
  · rw [Context.statusBytes, List.append_assoc] at ctxA
    rw [natOf_part (drop_next ctxA (bytesOf_length 1 _))]
    split <;> rfl
  · rw [Context.statusBytes, List.append_assoc] at ctxB
    exact getElem_part ctxB
  · rw [Context.statusBytes, List.append_assoc] at ctxB
    rw [natOf_part (drop_next ctxB (bytesOf_length 1 _))]
    split <;> rfl
  · exact (natOf_part pending).trans (congrArg (· % 65536) (countIn_eq _ _))
  · exact (natOf_part live).trans (congrArg (· % 65536) (countIn_eq _ _))
  · exact (natOf_part retiring).trans (congrArg (· % 65536) (countIn_eq _ _))
  · rw [getElem_part batch]
    cases s.cat.batch <;> rfl
  · rw [getElem_part (b := []) (sign.trans (List.append_nil _).symm)]
    cases s.cat.sign.status <;> rfl

/-! ### Frames and their bytes (R161, R164) -/

/-- A kind names the request that is a good frame of that kind. -/
theorem requestOf_of_kindAndFrame {i : Instr} {k : Byte} {f : Frame} (h : kindAndFrame i = some (k, f))
    (known : ∀ k f, i ≠ .unknownRequest k f) : requestOf k f = some i := by
  cases i
  case unknownRequest k f => exact absurd rfl (known k f)
  all_goals cases h <;> rfl

section EncodedFrame

variable {k : Byte} {f : Frame}

theorem encodeFrame_length (k : Byte) (f : Frame) :
    (encodeFrame k f).length = 4 + f.payload.length + f.extra := by
  simp [encodeFrame]
  omega

theorem declaredLength_encodeFrame (k : Byte) (fits : f.payload.length ≤ 56) :
    declaredLength (encodeFrame k f) = f.payload.length := by
  simp only [declaredLength, encodeFrame, List.cons_append, List.getD_cons_succ, List.getD_cons_zero, BitVec.toNat_ofNat]
  omega

/-- The bytes before the CRC-8. -/
theorem take_encodeFrame (k : Byte) (f : Frame) : (encodeFrame k f).take (3 + f.payload.length) =
    k :: f.tag :: BitVec.ofNat 8 f.payload.length :: f.payload :=
  List.take_left' (by simp; omega)

theorem isFrameError_encodeFrame (k : Byte) (fits : f.payload.length ≤ 56) : isFrameError (encodeFrame k f) = false := by
  by_contra error
  have error := (isFrameError_iff _).1 (Bool.eq_true_of_not_eq_false error)
  rw [declaredLength_encodeFrame k fits, take_encodeFrame, encodeFrame_length] at error
  have crc : (encodeFrame k f).getD (3 + f.payload.length) 0 =
      crc8 (k :: f.tag :: BitVec.ofNat 8 f.payload.length :: f.payload) := by
    rw [encodeFrame, List.getD_eq_getElem?_getD, List.getElem?_append_right (by simp; omega)]
    simp [show 3 + f.payload.length - (f.payload.length + 1 + 1 + 1) = 0 by omega]
  rcases error with h | h | h | h
  · omega
  · omega
  · omega
  · exact h crc

theorem frameOf_encodeFrame (k : Byte) (fits : f.payload.length ≤ 56) : frameOf (encodeFrame k f) = f := by
  rw [frameOf, declaredLength_encodeFrame k fits, encodeFrame_length, Nat.add_sub_cancel_left]
  have payload : ((encodeFrame k f).drop 3).take f.payload.length = f.payload := by
    simp [encodeFrame]
  rw [payload]
  rfl

/-- A frame of good form is read as what its kind byte says, with every field of it. -/
theorem decodeFrame_encodeFrame (k : Byte) (fits : f.payload.length ≤ 56) :
    decodeFrame (encodeFrame k f) = (requestOf k f).getD (.unknownRequest k f) := by
  rw [decodeFrame, isFrameError_encodeFrame k fits, frameOf_encodeFrame k fits]
  rfl

end EncodedFrame

/-- A good frame that can be sent has a payload of at most 56 bytes (R161). -/
theorem payload_length_le {i : Instr} {k : Byte} {f : Frame} (h : kindAndFrame i = some (k, f)) (wf : i.wellFormed = true) :
    f.payload.length ≤ 56 := by
  have frame : f.wellFormed = true := by
    cases i
    case unknownRequest => cases h; exact (Bool.and_eq_true_iff.1 wf).2
    all_goals cases h <;> exact wf
  exact of_decide_eq_true frame

/-- Settles O60: a frame error is read as one; a good frame has its kind and its fields where the decoder reads them. -/
theorem framesDecodeToTheirCommand : Obligations.FramesDecodeToTheirCommand := by
  intro i bs wf encoded
  by_cases error : ∃ bytes, i = .frameError bytes
  · obtain ⟨bytes, rfl⟩ := error
    obtain rfl := Option.some.inj encoded
    exact decodeFrame_of_error wf
  · have frame : encode i = (kindAndFrame i).map fun kf => encodeFrame kf.1 kf.2 := by
      cases i <;> first | rfl | exact absurd ⟨_, rfl⟩ error
    rw [frame] at encoded
    obtain ⟨⟨k, f⟩, hkf, rfl⟩ := Option.map_eq_some_iff.1 encoded
    rw [decodeFrame_encodeFrame k (payload_length_le hkf wf)]
    by_cases unknown : ∃ k f, i = .unknownRequest k f
    · obtain ⟨k', f', rfl⟩ := unknown
      cases hkf
      rw [Option.isNone_iff_eq_none.1 (Bool.and_eq_true_iff.1 wf).1]
      rfl
    · rw [requestOf_of_kindAndFrame hkf fun k f h => unknown ⟨k, f, h⟩]
      rfl

end Sys2Proof.Proofs

/-! ## Proofs: the segment catalogue's requests (chapters 1 and 2) -/

namespace Sys2Proof.Proofs

open Sys2Proof Sys2Proof.Machine Sys2Proof.Laws

/-! ### The version a selector names (R10, R18) -/

theorem selectorOf_of_outside {n : Nat} (h : n = 0 ∨ 4 < n) : selectorOf n = none := by
  unfold selectorOf
  split
  case h_5 => rfl
  all_goals omega

/-- The selectors by their codes, and the version each names. -/
theorem selected_of_code (s : State) (e : Entry) {n : Nat} (h1 : 1 ≤ n) (h4 : n ≤ 4) :
    ∃ sel, selectorOf n = some sel ∧ s.selected e sel =
      if n = 1 then e.installed.getLast?.map fun k => k.version
      else if n = 2 then (match e.staged with
        | some (.version v) => some v
        | _ => none)
      else ((s.ctx (if n = 3 then .A else .B)).resolve e).map fun k => k.version := by
  have staged : s.selected e .staged = match e.staged with
      | some (.version v) => some v
      | _ => none := by
    simp only [State.selected]
    cases e.staged with
    | none => rfl
    | some c => cases c <;> rfl
  interval_cases n
  · exact ⟨.newest, rfl, rfl⟩
  · exact ⟨.staged, rfl, staged⟩
  · exact ⟨.resolved .A, rfl, rfl⟩
  · exact ⟨.resolved .B, rfl, rfl⟩

/-! ### The staging record as a table of placements -/

theorem read_numbered {α : Type} (l : List α) (n i : Nat) :
    Table.read ((l.zipIdx n).map fun e => (e.2, e.1)) (n + i) = l[i]? := by
  induction l generalizing n i with
  | nil => rfl
  | cons a l ih =>
    simp only [List.zipIdx_cons, List.map_cons, Table.read]
    cases i with
    | zero => simp
    | succ i =>
      rw [if_neg (by omega), show n + (i + 1) = n + 1 + i by omega, ih]
      rfl

theorem ofVersion_holds (v : Version) : (Staging.ofVersion v).holds v := by
  refine ⟨rfl, rfl, rfl, rfl, rfl, rfl, rfl, rfl, rfl, rfl, rfl, rfl, rfl, rfl, fun i => ?_⟩
  have numbered := read_numbered v.defects 0 i
  rwa [Nat.zero_add] at numbered

theorem selectorOf_of_code {n : Nat} (h1 : 1 ≤ n) (h4 : n ≤ 4) : ∃ sel, selectorOf n = some sel := by
  interval_cases n <;> exact ⟨_, rfl⟩

section LoadStaging

variable {s : State} {f : Frame} {sel : Selector} {i : Nat} {e : Entry}

theorem loadStaging_of_none (low : f.nat 0 2 ≤ 1023) (named : selectorOf (f.nat 2 1) = some sel)
    (unknown : s.cat.find (f.nat 0 2) = none) : State.loadStaging f s = (s, .refuse .unknownSegment) := by
  rw [State.loadStaging, if_neg (Nat.not_lt.2 low), named]
  simp only [unknown]

theorem loadStaging_of_some (low : f.nat 0 2 ≤ 1023) (named : selectorOf (f.nat 2 1) = some sel)
    (found : s.cat.find (f.nat 0 2) = some (i, e)) :
    State.loadStaging f s = (s.selected e sel).elim (s, .refuse .state)
      fun v => ({ s with cat.staging := Staging.ofVersion v }, .ok) := by
  rw [State.loadStaging, if_neg (Nat.not_lt.2 low), named]
  simp only [found]
  cases s.selected e sel <;> rfl

end LoadStaging

/-- Settles O15: the selector names a version of the entry, or none. -/
theorem loadStagingCopiesTheSelectedVersion : Obligations.LoadStagingCopiesTheSelectedVersion := by
  intro s f hr hlen seg sel run
  have fits : f.fits 3 = true := (fits_iff f 3).2 hlen
  have answers {a : Answer} (ho : State.loadStaging f (ownerView s f) = (ownerView s f, a)) :
      run = .next (s.answered f a.status a.payload) :=
    congrArg Host.Outcome.next (request_only_answers hr fits ho)
  refine ⟨fun high => answers (if_pos high), fun low bad => answers (a := .invalid 33) ?_,
    fun low h1 h4 => ⟨fun unknown => answers (a := .refuse .unknownSegment) ?_, ?_⟩⟩
  · rw [State.loadStaging, if_neg (Nat.not_lt.2 low), selectorOf_of_outside bad]
  · obtain ⟨k, hk⟩ := selectorOf_of_code h1 h4
    exact loadStaging_of_none (s := ownerView s f) low hk unknown
  · intro i e found named
    obtain ⟨k, hk, value⟩ := selected_of_code s e h1 h4
    have owner := loadStaging_of_some (s := ownerView s f) low hk found
    have value : (ownerView s f).selected e k = named := value
    refine ⟨fun none_ => answers (a := .refuse .state) ?_, fun v some_ => ⟨Staging.ofVersion v, ofVersion_holds v, ?_⟩⟩
    · rw [owner, value, none_]
      rfl
    · rw [value, some_] at owner
      exact congrArg Host.Outcome.next (request_writes_cat hr fits owner)

/-! ### The lowest number that is not listed (R2, R114) -/

section Lowest

variable {α : Type} {t : Table α} {limit : Nat}

theorem lowest_iff (wf : Table.wf t = true) {n : Nat} :
    t.lowest limit = some n ↔ n < limit ∧ Table.read t n = none ∧ ∀ j < n, Table.read t j ≠ none := by
  obtain ⟨unlisted, listed⟩ := read_lowestFrom t 0 wf fun _ _ => Nat.zero_le _
  constructor
  · intro h
    obtain ⟨below, free⟩ := lowest_eq_some wf h
    simp only [Table.lowest] at h
    split at h
    · obtain rfl := Option.some.inj h
      exact ⟨below, free, fun j hj => listed j (Nat.zero_le j) hj⟩
    · nomatch h
  · rintro ⟨below, free, taken⟩
    have least : Table.lowestFrom 0 t = n := by
      rcases Nat.lt_trichotomy (Table.lowestFrom 0 t) n with lt | eq | gt
      · exact absurd unlisted (taken _ lt)
      · exact eq
      · exact absurd free (listed n (Nat.zero_le n) gt)
    rw [Table.lowest, least, if_pos below]

theorem lowest_eq_none (wf : Table.wf t = true) :
    t.lowest limit = none ↔ ∀ n < limit, Table.read t n ≠ none := by
  obtain ⟨unlisted, listed⟩ := read_lowestFrom t 0 wf fun _ _ => Nat.zero_le _
  rw [Table.lowest]
  split
  case isTrue below => exact ⟨fun h => (nomatch h), fun full => absurd unlisted (full _ below)⟩
  case isFalse past => exact ⟨fun _ n hn => listed n (Nat.zero_le n) (by omega), fun _ => rfl⟩

theorem lowestFrom_le (t : Table α) (n : Nat) : Table.lowestFrom n t ≤ n + t.length := by
  induction t generalizing n with
  | nil => exact Nat.le_refl n
  | cons e t ih =>
    simp only [Table.lowestFrom, List.length_cons]
    split
    · have := ih (n + 1)
      omega
    · omega

end Lowest

/-! ### STAGE ADD and STAGE CHANGE (R12, R13) -/

theorem find_eq_none {c : Cat} {seg : Nat} : c.find seg = none ↔ ∀ e ∈ c.entries, e.2.seg ≠ seg := by
  simp [Cat.find]

section StageAdd

variable {s : State} {f : Frame} {i : Nat}

theorem stageAdd_of_listed (low : f.nat 0 2 ≤ 1023) (free : s.catalogueBusy = false)
    (listed : s.cat.find (f.nat 0 2) ≠ none) : State.stageAdd f s = (s, .refuse .exists_) := by
  rw [State.stageAdd, changing_of_free low free]
  cases h : s.cat.find (f.nat 0 2) with
  | none => exact absurd h listed
  | some e => rfl

theorem stageAdd_of_full (low : f.nat 0 2 ≤ 1023) (free : s.catalogueBusy = false)
    (unknown : s.cat.find (f.nat 0 2) = none) (full : s.cat.entries.lowest 256 = none) :
    State.stageAdd f s = (s, .refuse .full) := by
  rw [State.stageAdd, changing_of_free low free]
  simp only [unknown, Config.entryCount, full]

theorem stageAdd_of_vacant (low : f.nat 0 2 ≤ 1023) (free : s.catalogueBusy = false)
    (unknown : s.cat.find (f.nat 0 2) = none) (vacant : s.cat.entries.lowest 256 = some i) :
    State.stageAdd f s = s.staging fun v => { s with cat := { s.cat.disturb [f.nat 0 2] with
      entries := s.cat.entries.write i (Entry.pendingWith (f.nat 0 2) v) } } := by
  rw [State.stageAdd, changing_of_free low free]
  simp only [unknown, Config.entryCount, vacant]

theorem staging_of_error {code : Nat} (act : Version → State) (h : s.cat.staging.version = .error code) :
    s.staging act = (s, .invalid code) := by
  rw [State.staging, h]

theorem staging_of_ok {v : Version} (act : Version → State) (h : s.cat.staging.version = .ok v) :
    s.staging act = (act v, .ok) := by
  rw [State.staging, h]

end StageAdd

/-- Settles O16: the entry of the segment, then the lowest VACANT entry, then the staging record. -/
theorem stageAddMakesTheLowestVacantEntryPending : Obligations.StageAddMakesTheLowestVacantEntryPending := by
  intro s f hr hlen wf seg run
  have fits : f.fits 2 = true := (fits_iff f 2).2 hlen
  have answers {a : Answer} (ho : State.stageAdd f (ownerView s f) = (ownerView s f, a)) :
      run = .next (s.answered f a.status a.payload) :=
    congrArg Host.Outcome.next (request_only_answers hr fits ho)
  refine ⟨fun high => answers (changing_of_bad_segment high), fun low busy => answers (changing_of_busy low busy),
    fun low free => ⟨fun listed => answers (stageAdd_of_listed (s := ownerView s f) low free ?_),
      fun unlisted => ⟨fun full => ?_, fun i below unread lower => ?_⟩⟩⟩
  · obtain ⟨e, he, same⟩ := listed
    exact fun none_ => find_eq_none.1 none_ e he same
  · exact answers (stageAdd_of_full (s := ownerView s f) low free (find_eq_none.2 unlisted)
      ((lowest_eq_none wf).2 full))
  · have owner := stageAdd_of_vacant (s := ownerView s f) low free (find_eq_none.2 unlisted)
      ((lowest_iff wf).2 ⟨below, unread, lower⟩)
    refine ⟨fun code error => answers (owner.trans (staging_of_error _ error)), fun v ok => ?_⟩
    have written := owner.trans (staging_of_ok _ ok)
    rw [disturb_singleton] at written
    exact congrArg Host.Outcome.next (request_writes_cat hr fits written)

section StageChange

variable {s : State} {f : Frame} {i : Nat} {e : Entry}

theorem stageChange_of_entry (low : f.nat 0 2 ≤ 1023) (free : s.catalogueBusy = false)
    (found : s.cat.find (f.nat 0 2) = some (i, e)) :
    State.stageChange f s = if e.mayStage = true then
        s.staging fun v => s.changeEntry (f.nat 0 2) fun e => { e with staged := some (.version v) }
      else (s, .refuse .state) := by
  rw [State.stageChange, changing_of_free low free, onEntry_of_some found]

theorem mayStage_iff (e : Entry) : e.mayStage = true ↔
    e.state = .pending ∨ (e.state = .live ∧ e.member = false ∧ e.staged ≠ some .retirement) := by
  unfold Entry.mayStage
  cases e.state <;> simp

end StageChange

/-- Settles O18: the state of the entry decides whether it may be staged, the staging record what with. -/
theorem stageChangeFollowsTheEntryTable : Obligations.StageChangeFollowsTheEntryTable := by
  intro s f hr hlen seg run
  have fits : f.fits 2 = true := (fits_iff f 2).2 hlen
  have answers {a : Answer} (ho : State.stageChange f (ownerView s f) = (ownerView s f, a)) :
      run = .next (s.answered f a.status a.payload) :=
    congrArg Host.Outcome.next (request_only_answers hr fits ho)
  refine ⟨fun high => answers (changing_of_bad_segment high), fun low busy => answers (changing_of_busy low busy),
    fun low free unknown => answers ((changing_of_free (s := ownerView s f) low free).trans (onEntry_of_none unknown)),
    fun i e low free found => ?_⟩
  have owner := stageChange_of_entry (s := ownerView s f) low free found
  refine ⟨fun refused => answers (owner.trans (if_neg ?_)), fun may => ?_⟩
  · rw [mayStage_iff]
    grind
  · rw [if_pos ((mayStage_iff e).2 may)] at owner
    exact ⟨fun code error => answers (owner.trans (staging_of_error _ error)), fun v ok =>
      congrArg Host.Outcome.next (request_writes_cat hr fits (owner.trans (staging_of_ok _ ok)))⟩

/-! ### RETIRE (R38 to R40) -/

section Retire

variable {s : State} {f : Frame} {mode : RetireMode} {i : Nat} {e : Entry}

theorem retireModeOf_iff (n : Nat) :
    (n = 1 → retireModeOf n = some .atBoundary) ∧ (n = 2 → retireModeOf n = some .immediate) ∧
      (n ≠ 1 → n ≠ 2 → retireModeOf n = none) := by
  refine ⟨fun h => h ▸ rfl, fun h => h ▸ rfl, fun h1 h2 => ?_⟩
  unfold retireModeOf
  split
  · exact absurd rfl h1
  · exact absurd rfl h2
  · rfl

/-- What RETIRE does to an entry that is not PENDING. -/
def retireIn (s : State) (seg : Nat) (e : Entry) : RetireMode → State × Answer
  | .atBoundary => s.retireAtBoundary seg e
  | .immediate => s.retireImmediate seg e

theorem retire_of_mode (low : f.nat 0 2 ≤ 1023) (named : retireModeOf (f.nat 2 1) = some mode) :
    State.retire f s = s.changing (f.nat 0 2) (s.onEntry (f.nat 0 2) fun e =>
      if e.state = .pending then (s.vacate (f.nat 0 2), .ok) else retireIn s (f.nat 0 2) e mode) := by
  rw [State.retire, if_neg (Nat.not_lt.2 low), named]
  cases mode <;> rfl

theorem retire_of_entry (low : f.nat 0 2 ≤ 1023) (named : retireModeOf (f.nat 2 1) = some mode)
    (free : s.catalogueBusy = false) (found : s.cat.find (f.nat 0 2) = some (i, e)) :
    State.retire f s =
      if e.state = .pending then (s.vacate (f.nat 0 2), .ok) else retireIn s (f.nat 0 2) e mode := by
  rw [retire_of_mode low named, changing_of_free low free, onEntry_of_some found]

theorem joined_eq (b : Batch) (window : Nat) : b.joined window = if b = .closed then .window window else b := by
  cases b <;> rfl

theorem retireAtBoundary_of_live (seg : Nat) (live : e.state = .live) (outside : e.member = false) :
    s.retireAtBoundary seg e = (s.changeEntry seg fun k => { k with staged := some .retirement }, .ok) :=
  if_pos ⟨live, outside⟩

theorem retireImmediate_of_live (seg : Nat) (live : e.state = .live) (outside : e.member = false) :
    s.retireImmediate seg e = ({ s with cat :=
      { s.cat.changeEntry seg (fun k => { k with member := true, staged := none }) with
        batch := if s.cat.batch = .closed then .window s.params.batchWindow else s.cat.batch } }, .ok) := by
  rw [← joined_eq, State.retireImmediate, if_pos live, if_neg (by simp [outside])]
  rfl

end Retire

/-- Settles O20: the mode, then the entry of the segment by its state. -/
theorem retireFollowsTheEntryTables : Obligations.RetireFollowsTheEntryTables := by
  intro s f hr hlen seg mode run
  have fits : f.fits 3 = true := (fits_iff f 3).2 hlen
  have answers {a : Answer} (ho : State.retire f (ownerView s f) = (ownerView s f, a)) :
      run = .next (s.answered f a.status a.payload) :=
    congrArg Host.Outcome.next (request_only_answers hr fits ho)
  have writes {c : Cat} (ho : State.retire f (ownerView s f) = ({ ownerView s f with cat := c }, .ok)) :
      run = .next { s.answered f .ok [] with cat := c } :=
    congrArg Host.Outcome.next (request_writes_cat hr fits ho)
  obtain ⟨one, two, other⟩ := retireModeOf_iff mode
  have named (h : mode = 1 ∨ mode = 2) : ∃ k, retireModeOf mode = some k := h.elim (fun h => ⟨_, one h⟩) fun h => ⟨_, two h⟩
  refine ⟨fun high => answers (if_pos high), fun low h1 h2 => answers (a := .invalid 37) ?_, fun low known busy => ?_,
    fun low known free => ⟨fun unknown => ?_, fun i e found => ?_⟩⟩
  · rw [State.retire, if_neg (Nat.not_lt.2 low), other h1 h2]
  · obtain ⟨k, hk⟩ := named known
    exact answers ((retire_of_mode low hk).trans (changing_of_busy low busy))
  · obtain ⟨k, hk⟩ := named known
    exact answers ((retire_of_mode low hk).trans
      ((changing_of_free (s := ownerView s f) low free).trans (onEntry_of_none unknown)))
  · have owner {k : RetireMode} (hk : retireModeOf mode = some k) :=
      retire_of_entry (s := ownerView s f) low hk free found
    refine ⟨fun pending => ?_, fun retiring => ?_, fun h live member => ?_, fun h live outside => ?_,
      fun h live member => ?_, fun h live outside => ?_⟩
    · obtain ⟨k, hk⟩ := named known
      exact writes ((owner hk).trans ((if_pos pending).trans (by rw [vacate_eq]; rfl)))
    · rcases known with h | h
      · exact answers (a := .refuse .state) ((owner (one h)).trans (by simp [retiring, retireIn, State.retireAtBoundary]))
      · exact answers (a := .refuse .state) ((owner (two h)).trans (by simp [retiring, retireIn, State.retireImmediate]))
    · exact answers (a := .refuse .state) ((owner (one h)).trans (by simp [live, member, retireIn, State.retireAtBoundary]))
    · exact writes ((owner (one h)).trans ((if_neg (by simp [live])).trans (retireAtBoundary_of_live seg live outside)))
    · exact answers (a := .ok) ((owner (two h)).trans (by simp [live, member, retireIn, State.retireImmediate]))
    · exact writes ((owner (two h)).trans ((if_neg (by simp [live])).trans (retireImmediate_of_live seg live outside)))

/-- Settles O22: another long request, an open context or an opening, the limit of the epoch counter; else accepted. -/
theorem commitIsAcceptedOnlyWithNoExposureOpen : Obligations.CommitIsAcceptedOnlyWithNoExposureOpen := by
  intro s f hr hp opened
  have fits : f.fits 0 = true := (fits_iff f 0).2 (by rw [hp, List.length_nil])
  have answers {a : Answer} (ho : State.commitRequest f (ownerView s f) = (ownerView s f, a)) :
      exec (.commit f) s = .next (s.answered f a.status a.payload) :=
    congrArg Host.Outcome.next (request_only_answers hr fits ho)
  have blocked : ((ownerView s f).exc.ctxA.isOpen = true ∨ (ownerView s f).exc.ctxB.isOpen = true ∨
      (ownerView s f).exc.opening.isSome = true) ↔ opened := by
    rw [Option.isSome_iff_ne_none]
    exact Iff.rfl
  have unbusy (none_ : s.cmd.long = none) : ¬(ownerView s f).cmd.long.isSome = true :=
    fun h => absurd none_ (Option.isSome_iff_ne_none.1 h)
  have accepts (none_ : s.cmd.long = none) (o : ¬opened) (below : s.cat.epoch < 4294967295) :
      State.commitRequest f (ownerView s f) = (ownerView s f).acceptLong .commit f.tag :=
    (if_neg (unbusy none_)).trans ((if_neg fun h => o (blocked.1 h)).trans (if_neg (Nat.not_le.2 below)))
  refine ⟨fun busy => answers (if_pos (Option.isSome_iff_ne_none.2 busy)), fun none_ o => answers (a := .refuse .deferred) ?_,
    fun none_ o limit => answers (a := .refuse .epochLimit) ?_,
    fun none_ o below => congrArg Host.Outcome.next ((request_places hr fits (accepts none_ o below)).trans rfl)⟩
  · exact (if_neg (unbusy none_)).trans (if_pos (blocked.2 o))
  · exact (if_neg (unbusy none_)).trans ((if_neg fun h => o (blocked.1 h)).trans (if_pos (Nat.le_of_eq limit.symm)))

end Sys2Proof.Proofs

/-! ## Proofs: validation of the staging record (R11) -/

namespace Sys2Proof.Proofs

open Sys2Proof Sys2Proof.Machine Sys2Proof.Laws

/-! ### One field after another -/

section Fields

variable {α β : Type} {code c : Nat} {o : Option α} {k : α → Except Nat β} {g : Staging}

theorem present_bind_eq_ok {b : β} : (present code o >>= k) = .ok b ↔ ∃ a, o = some a ∧ k a = .ok b := by
  cases o with
  | none => exact ⟨fun h => (nomatch h), fun ⟨_, h, _⟩ => (nomatch h)⟩
  | some a => exact ⟨fun h => ⟨a, rfl, h⟩, fun ⟨_, h, ok⟩ => Option.some.inj h ▸ ok⟩

/-- A field's code is the lowest that fails. -/
def FirstFailure (g : Staging) (code : Nat) : Prop := g.fails code ∧ ∀ j < code, ¬g.fails j

/-- The fields below a code pass. -/
def PassBelow (g : Staging) (code : Nat) : Prop := ∀ j < code, ¬g.fails j

theorem passBelow_succ (below : PassBelow g code) (passes : ¬g.fails code) : PassBelow g (code + 1) :=
  fun j hj => (Nat.lt_or_eq_of_le (Nat.le_of_lt_succ hj)).elim (below j) fun same => same ▸ passes

/-- A field that must be present, in the chain of the checks: it is the first that fails, or the chain goes on. -/
theorem firstFailure_of_present (below : PassBelow g code) (fails : g.fails code ↔ o = none)
    (h : (present code o >>= k) = .error c)
    (next : ∀ a, o = some a → PassBelow g (code + 1) → k a = .error c → FirstFailure g c) : FirstFailure g c := by
  cases o with
  | none =>
    obtain rfl : code = c := Except.error.inj h
    exact ⟨fails.2 rfl, below⟩
  | some a => exact next a rfl (passBelow_succ below fun failed => nomatch fails.1 failed) h

end Fields

section Placements

variable {g : Staging} {rows cols : Nat}

/-- A placement below the count fails when it is absent or outside the segment. -/
theorem fails_placement (g : Staging) (i : Nat) : g.fails (i + 15) ↔
    ∃ n, g.defectCount = some n ∧ i + 15 < 15 + n ∧ ∀ p, g.defects.read i = some p →
      (∃ rows, g.rows = some rows ∧ rows ≤ p.row) ∨ ∃ cols, g.cols = some cols ∧ cols ≤ p.col := Iff.rfl

/-- The checks of the placements end at the first that fails. -/
theorem firstFailure_of_placements (hrows : g.rows = some rows) (hcols : g.cols = some cols) {n k i c : Nat}
    (count : g.defectCount = some n) (rest : i + k = n) (below : PassBelow g (i + 15))
    (h : g.placements rows cols k i = .error c) : FirstFailure g c := by
  induction k generalizing i with
  | zero => nomatch h
  | succ k ih =>
    simp only [Staging.placements] at h
    cases read : g.defects.read i with
    | none =>
      simp only [read] at h
      obtain rfl : 15 + i = c := Except.error.inj h
      rw [Nat.add_comm]
      exact ⟨(fails_placement g i).2 ⟨n, count, by omega, fun p hp => nomatch read.symm.trans hp⟩, below⟩
    | some p =>
      simp only [read] at h
      by_cases outside : rows ≤ p.row ∨ cols ≤ p.col
      · rw [if_pos outside] at h
        obtain rfl : 15 + i = c := Except.error.inj h
        rw [Nat.add_comm]
        refine ⟨(fails_placement g i).2 ⟨n, count, by omega, fun q hq => ?_⟩, below⟩
        obtain rfl : p = q := Option.some.inj (read.symm.trans hq)
        exact outside.imp (fun h => ⟨rows, hrows, h⟩) fun h => ⟨cols, hcols, h⟩
      · rw [if_neg outside] at h
        have passes : ¬g.fails (i + 15) := fun failed => by
          obtain ⟨-, -, -, fails⟩ := (fails_placement g i).1 failed
          rcases fails p read with ⟨r, hr, high⟩ | ⟨r, hr, high⟩
          · exact outside (.inl (Option.some.inj (hrows.symm.trans hr) ▸ high))
          · exact outside (.inr (Option.some.inj (hcols.symm.trans hr) ▸ high))
        refine ih (i := i + 1) (by omega) ?_ ?_
        · exact (show i + 1 + 15 = i + 15 + 1 by omega) ▸ passBelow_succ below passes
        · cases tail : g.placements rows cols k (i + 1) with
          | ok ps => simp [tail] at h
          | error e => simpa [tail] using h

/-- The placements pass when all of them stand in the segment. -/
theorem placements_eq_ok {k i : Nat} {ps : List Placement} : g.placements rows cols k i = .ok ps ↔
    ps.length = k ∧ (∀ j < k, g.defects.read (i + j) = ps[j]?) ∧ ∀ p ∈ ps, p.row < rows ∧ p.col < cols := by
  induction k generalizing i ps with
  | zero =>
    simp only [Staging.placements, Except.ok.injEq, List.length_eq_zero_iff, Nat.not_lt_zero, false_implies,
      implies_true, true_and]
    exact ⟨fun h => ⟨h.symm, fun p hp => by simp [← h] at hp⟩, fun h => h.1.symm⟩
  | succ k ih =>
    constructor
    · intro h
      simp only [Staging.placements] at h
      split at h
      · nomatch h
      · rename_i p read
        split at h
        · nomatch h
        · rename_i inside
          split at h
          · rename_i tail ok
            obtain rfl := Except.ok.inj h
            obtain ⟨length, reads, within⟩ := ih.1 ok
            refine ⟨congrArg Nat.succ length, fun j hj => ?_, fun q hq => ?_⟩
            · cases j with
              | zero => exact read
              | succ j =>
                rw [show i + (j + 1) = i + 1 + j by omega]
                exact reads j (by omega)
            · rcases List.mem_cons.1 hq with rfl | hq
              · omega
              · exact within q hq
          · nomatch h
    · rintro ⟨length, reads, within⟩
      match ps, length with
      | p :: tail, length =>
        have read : g.defects.read i = some p := reads 0 (by omega)
        obtain ⟨row, col⟩ := within p (.head _)
        have ok : g.placements rows cols k (i + 1) = .ok tail := by
          refine ih.2 ⟨Nat.succ.inj length, fun j hj => ?_, fun q hq => within q (.tail _ hq)⟩
          rw [show i + 1 + j = i + (j + 1) by omega]
          exact reads (j + 1) (by omega)
        simp only [Staging.placements, read, ok]
        rw [if_neg (by omega)]

end Placements

/-! ### The chain -/

/-- What the version that passes has of the record (R11). -/
def IsVersionOf (g : Staging) (v : Version) : Prop :=
  (g.rows = some v.rows ∧ g.cols = some v.cols ∧ g.originX = some v.originX ∧ g.originY = some v.originY ∧
    g.colStepX = some v.colStepX ∧ g.colStepY = some v.colStepY ∧ g.rowStepX = some v.rowStepX ∧
    g.rowStepY = some v.rowStepY ∧ g.bias = some v.bias ∧ g.gain = some v.gain ∧ g.flat = some v.flat ∧
    g.saturation = some v.saturation ∧ g.weight = some v.weight ∧ g.defectCount = some v.defects.length) ∧
  v.flat.length = (v.cols + 63) / 64 ∧
  (∀ i < v.defects.length, g.defects.read i = v.defects[i]?) ∧
  (∀ p ∈ v.defects, p.row < v.rows ∧ p.col < v.cols)

theorem bands_eq_ok {p : Prop} [Decidable p] {l : List Nat} {β : Type} {k : List Nat → Except Nat β} {b : β} :
    (if p then Except.ok l >>= k else Except.error 11 >>= k) = .ok b ↔ p ∧ k l = .ok b := by
  split
  case isTrue h => exact ⟨fun ok => ⟨h, ok⟩, fun ok => ok.2⟩
  case isFalse h => exact ⟨fun ok => (nomatch ok), fun ok => absurd ok.1 h⟩

theorem placements_bind_eq_ok {β : Type} {x : Except Nat (List Placement)} {k : List Placement → Except Nat β} {b : β} :
    (x >>= k) = .ok b ↔ ∃ ps, x = .ok ps ∧ k ps = .ok b := by
  cases x with
  | error e => exact ⟨fun h => (nomatch h), fun ⟨_, h, _⟩ => (nomatch h)⟩
  | ok a => exact ⟨fun h => ⟨a, rfl, h⟩, fun ⟨_, h, ok⟩ => Except.ok.inj h ▸ ok⟩

theorem version_eq_ok (g : Staging) (v : Version) : g.version = .ok v ↔ IsVersionOf g v := by
  simp only [Staging.version, present_bind_eq_ok, bands_eq_ok, placements_bind_eq_ok, placements_eq_ok, Nat.zero_add]
  constructor
  · rintro ⟨rows, hrows, cols, hcols, x, hx, y, hy, cx, hcx, cy, hcy, rx, hrx, ry, hry, bias, hbias, gain, hgain,
      flat, hflat, bands, saturation, hsat, weight, hweight, count, hcount, defects, ⟨length, reads, within⟩, ok⟩
    obtain rfl := Except.ok.inj ok
    subst length
    exact ⟨⟨hrows, hcols, hx, hy, hcx, hcy, hrx, hry, hbias, hgain, hflat, hsat, hweight, hcount⟩, bands, reads, within⟩
  · rintro ⟨⟨hrows, hcols, hx, hy, hcx, hcy, hrx, hry, hbias, hgain, hflat, hsat, hweight, hcount⟩, bands, reads, within⟩
    exact ⟨_, hrows, _, hcols, _, hx, _, hy, _, hcx, _, hcy, _, hrx, _, hry, _, hbias, _, hgain, _, hflat, bands,
      _, hsat, _, hweight, _, hcount, _, ⟨rfl, reads, within⟩, rfl⟩

theorem firstFailure_of_error {g : Staging} {c : Nat} (h : g.version = .error c) : FirstFailure g c := by
  refine firstFailure_of_present (code := 1) (fun j hj => ?_) Iff.rfl h fun rows hrows below h => ?_
  · obtain rfl := Nat.lt_one_iff.1 hj
    exact id
  refine firstFailure_of_present below Iff.rfl h fun cols hcols below h => ?_
  refine firstFailure_of_present below Iff.rfl h fun _ _ below h => ?_
  refine firstFailure_of_present below Iff.rfl h fun _ _ below h => ?_
  refine firstFailure_of_present below Iff.rfl h fun _ _ below h => ?_
  refine firstFailure_of_present below Iff.rfl h fun _ _ below h => ?_
  refine firstFailure_of_present below Iff.rfl h fun _ _ below h => ?_
  refine firstFailure_of_present below Iff.rfl h fun _ _ below h => ?_
  refine firstFailure_of_present below Iff.rfl h fun _ _ below h => ?_
  refine firstFailure_of_present below Iff.rfl h fun _ _ below h => ?_
  cases hflat : g.flat with
  | none =>
    rw [hflat] at h
    obtain rfl : 11 = c := Except.error.inj h
    exact ⟨fun l hl => (nomatch hflat.symm.trans hl), below⟩
  | some flat =>
    rw [hflat] at h
    replace h : (if flat.length = flatBands cols then _ else _) = Except.error c := h
    by_cases bands : flat.length = flatBands cols
    case neg =>
      rw [if_neg bands] at h
      obtain rfl : 11 = c := Except.error.inj h
      exact ⟨fun l hl => ⟨cols, hcols, Option.some.inj (hflat.symm.trans hl) ▸ bands⟩, below⟩
    case pos =>
      rw [if_pos bands] at h
      have passes : ¬g.fails 11 := fun failed => by
        obtain ⟨other, same, differ⟩ := failed flat hflat
        exact differ (Option.some.inj (hcols.symm.trans same) ▸ bands)
      refine firstFailure_of_present (passBelow_succ below passes) Iff.rfl h fun _ _ below h => ?_
      refine firstFailure_of_present below Iff.rfl h fun _ _ below h => ?_
      refine firstFailure_of_present below Iff.rfl h fun count hcount below h => ?_
      cases placed : g.placements rows cols count 0 with
      | ok ps =>
        rw [placed] at h
        nomatch h
      | error e =>
        rw [placed] at h
        obtain rfl : e = c := Except.error.inj h
        exact firstFailure_of_placements hrows hcols hcount (Nat.zero_add _) below placed

theorem not_fails_of_isVersionOf {g : Staging} {v : Version} (h : IsVersionOf g v) (j : Nat) : ¬g.fails j := by
  obtain ⟨⟨hrows, hcols, hx, hy, hcx, hcy, hrx, hry, hbias, hgain, hflat, hsat, hweight, hcount⟩, bands, reads, within⟩ := h
  by_cases placement : 15 ≤ j
  · obtain ⟨i, rfl⟩ := Nat.exists_eq_add_of_le' placement
    rw [fails_placement]
    rintro ⟨n, count, below, fails⟩
    obtain rfl := Option.some.inj (hcount.symm.trans count)
    have listed : i < v.defects.length := by omega
    obtain ⟨row, col⟩ := within _ (List.getElem_mem listed)
    rcases fails _ ((reads i listed).trans (List.getElem?_eq_getElem listed)) with ⟨r, hr, high⟩ | ⟨r, hr, high⟩
    · obtain rfl := Option.some.inj (hrows.symm.trans hr)
      omega
    · obtain rfl := Option.some.inj (hcols.symm.trans hr)
      omega
  · rcases eq_or_ne j 0 with rfl | notZero
    · exact id
    rcases eq_or_ne j 11 with rfl | notFlat
    · intro failed
      obtain ⟨cols, same, differ⟩ := failed _ hflat
      exact differ (Option.some.inj (hcols.symm.trans same) ▸ bands)
    interval_cases j
    all_goals exact fun failed => by simp_all [Staging.fails]

theorem version_eq_error (g : Staging) (code : Nat) :
    g.version = .error code ↔ g.fails code ∧ ∀ j < code, ¬g.fails j := by
  refine ⟨firstFailure_of_error, fun ⟨fails, below⟩ => ?_⟩
  cases h : g.version with
  | ok v => exact absurd fails (not_fails_of_isVersionOf ((version_eq_ok g v).1 h) code)
  | error other =>
    obtain ⟨otherFails, otherBelow⟩ := firstFailure_of_error h
    rcases Nat.lt_trichotomy other code with lt | eq | gt
    · exact absurd otherFails (below other lt)
    · rw [eq]
    · exact absurd fails (otherBelow code gt)

/-- Settles O17: the chain of the checks ends at the first field that fails, or with the record's version. -/
theorem validationAcceptsExactlyCompleteRecords : Obligations.ValidationAcceptsExactlyCompleteRecords := by
  refine ⟨version_eq_ok, version_eq_error, fun s f code hr hlen low free fails below => ⟨fun unknown room ok => ?_,
    fun i e found pending => ?_⟩⟩
  all_goals
    have fits : f.fits 2 = true := (fits_iff f 2).2 hlen
    have error := (version_eq_error _ _).2 ⟨fails, below⟩
  · obtain ⟨i, vacant⟩ : ∃ i, s.cat.entries.lowest 256 = some i :=
      ⟨_, if_pos (Nat.lt_of_le_of_lt (lowestFrom_le s.cat.entries 0) (by omega))⟩
    exact congrArg Host.Outcome.next (request_only_answers (a := .invalid code) hr fits
      ((stageAdd_of_vacant (s := ownerView s f) low free unknown vacant).trans (staging_of_error _ error)))
  · exact congrArg Host.Outcome.next (request_only_answers (a := .invalid code) hr fits
      ((stageChange_of_entry (s := ownerView s f) low free found).trans
        ((if_pos ((mayStage_iff e).2 (.inl pending))).trans (staging_of_error _ error))))

end Sys2Proof.Proofs

/-! ## Proofs: READ ENTRY, the stamps and the signature walk (chapters 1 and 2) -/

namespace Sys2Proof.Proofs

open Sys2Proof Sys2Proof.Machine Sys2Proof.Laws

/-! ### READ ENTRY (R18) -/

theorem absentBytes_one : absentBytes 1 = [0xFF] := rfl

theorem absentBytes_two : absentBytes 2 = [0xFF, 0xFF] := rfl

theorem sectionOf_of_outside {n : Nat} (h : n = 0 ∨ 4 < n) : sectionOf n = none := by
  unfold sectionOf
  split
  case h_5 => rfl
  all_goals omega

/-- The list position of the version that a context resolves, in one byte (R175, log 18). -/
theorem resolvedPosition_bytes (x : Context) (e : Entry) : optionBytes 1 (x.resolvedPosition e) =
    match x.resolve e with
    | none => [0xFF]
    | some k => if e.installed.getLast? = some k then [1] else [0] := by
  unfold Context.resolvedPosition
  cases x.resolve e with
  | none => rfl
  | some k =>
    simp only [Option.map_some, optionBytes]
    split <;> rfl

theorem entryStateBytes_eq (s : State) (i : Nat) (e : Entry) : s.entryStateBytes i e =
    bytesOf 2 i ++ bytesOf 2 e.seg ++ bytesOf 1 e.state.code ++ bytesOf 1 e.installed.length
      ++ (e.installed.flatMap fun k => bytesOf 4 k.epoch)
      ++ bytesOf 1 (match e.staged with
          | none => 0
          | some (.version _) => 1
          | some .retirement => 2)
      ++ flagByte e.suspect ++ bytesOf 1 e.broken
      ++ (match e.marker with
          | some m => bytesOf 1 m.port.val ++ bytesOf 1 m.buffer.val
          | none => [0xFF, 0xFF])
      ++ flagByte e.member
      ++ (match s.exc.ctxA.resolve e with
          | none => [0xFF]
          | some k => if e.installed.getLast? = some k then [1] else [0])
      ++ (match s.exc.ctxB.resolve e with
          | none => [0xFF]
          | some k => if e.installed.getLast? = some k then [1] else [0]) := by
  have staged : stagedCode e.staged = match e.staged with
      | none => 0
      | some (.version _) => 1
      | some .retirement => 2 := by
    cases e.staged with
    | none => rfl
    | some c => cases c <;> rfl
  rw [State.entryStateBytes, resolvedPosition_bytes, resolvedPosition_bytes, staged]
  cases e.marker <;> rfl

section ReadEntry

variable {s : State} {f : Frame} {sec : Section} {sel : Selector} {i : Nat} {e : Entry}

theorem readEntry_of_version (low : f.nat 0 2 ≤ 1023) (named : sectionOf (f.nat 2 1) = some sec) (needs : sec ≠ .state) :
    State.readEntry f s = s.readVersion f sec := by
  rw [State.readEntry, if_neg (Nat.not_lt.2 low), named]
  cases sec <;> first | rfl | exact absurd rfl needs

theorem readVersion_of_none (named : selectorOf (f.nat 3 1) = some sel) (unknown : s.cat.find (f.nat 0 2) = none) :
    s.readVersion f sec = (s, .refuse .unknownSegment) := by
  rw [State.readVersion, named]
  simp only [unknown]

theorem readVersion_of_some (named : selectorOf (f.nat 3 1) = some sel) (found : s.cat.find (f.nat 0 2) = some (i, e)) :
    s.readVersion f sec = (s.selected e sel).elim (s, .refuse .state) fun v => s.capture (v.sectionBytes sec) := by
  rw [State.readVersion, named]
  simp only [found]
  cases s.selected e sel <;> rfl

end ReadEntry

/-- The sections of READ ENTRY that need a version, by their codes. -/
theorem sectionOf_needs_version {n : Nat} (h2 : 2 ≤ n) (h4 : n ≤ 4) :
    ∃ sec, sectionOf n = some sec ∧ sec ≠ .state ∧ (n = 2 → sec = .geometry) ∧ (n = 3 → sec = .calibration) ∧
      (n = 4 → sec = .defects) := by
  interval_cases n <;> exact ⟨_, rfl, by decide, by decide, by decide, by decide⟩

/-- Settles O24: the section, the selector and the entry; then the bytes of the section. -/
theorem readEntryCapturesTheSection : Obligations.ReadEntryCapturesTheSection := by
  intro s f hr hlen seg sec sel run
  have fits : f.fits 4 = true := (fits_iff f 4).2 hlen
  have answers {a : Answer} (ho : State.readEntry f (ownerView s f) = (ownerView s f, a)) :
      run = .next (s.answered f a.status a.payload) :=
    congrArg Host.Outcome.next (request_only_answers hr fits ho)
  have captures {items : List Byte} (ho : State.readEntry f (ownerView s f) = (ownerView s f).capture items) :
      run = .next (s.captured f items) := congrArg Host.Outcome.next (request_captures hr fits ho)
  refine ⟨fun high => answers (if_pos high), fun low bad => answers (a := .invalid 34) ?_,
    fun low h2 h4 bad => answers (a := .invalid 33) ?_, fun low known => ⟨fun unknown => ?_, fun i e found => ?_⟩⟩
  · rw [State.readEntry, if_neg (Nat.not_lt.2 low), sectionOf_of_outside bad]
  · obtain ⟨k, hk, needs, -⟩ := sectionOf_needs_version h2 h4
    rw [readEntry_of_version low hk needs, State.readVersion, selectorOf_of_outside bad]
  · rcases known with one | ⟨h2, h4, h1, hsel⟩
    · refine answers (a := .refuse .unknownSegment) ?_
      rw [State.readEntry, if_neg (Nat.not_lt.2 low), show f.nat 2 1 = 1 from one]
      simp only [sectionOf, ownerView_cat]
      rw [show s.cat.find (f.nat 0 2) = none from unknown]
    · obtain ⟨k, hk, needs, -⟩ := sectionOf_needs_version h2 h4
      obtain ⟨v, hv⟩ := selectorOf_of_code h1 hsel
      exact answers ((readEntry_of_version low hk needs).trans (readVersion_of_none (s := ownerView s f) hv unknown))
  · intro position named
    have versioned (other : sec ≠ 1) : ∃ k, sectionOf sec = some k ∧ k ≠ .state ∧ (sec = 2 → k = .geometry) ∧
        (sec = 3 → k = .calibration) ∧ (sec = 4 → k = .defects) ∧
        State.readEntry f (ownerView s f) = named.elim (ownerView s f, .refuse .state)
          fun v => (ownerView s f).capture (v.sectionBytes k) := by
      obtain ⟨h2, h4, h1, hsel⟩ := known.resolve_left other
      obtain ⟨k, hk, needs, codes⟩ := sectionOf_needs_version h2 h4
      obtain ⟨v, hv, value⟩ := selected_of_code s e h1 hsel
      have value : (ownerView s f).selected e v = named := value
      refine ⟨k, hk, needs, codes.1, codes.2.1, codes.2.2, ?_⟩
      rw [readEntry_of_version low hk needs, readVersion_of_some (s := ownerView s f) hv found, value]
    refine ⟨fun one => captures ?_, fun other none_ => answers (a := .refuse .state) ?_, fun v some_ => ?_⟩
    · rw [State.readEntry, if_neg (Nat.not_lt.2 low), show f.nat 2 1 = 1 from one]
      simp only [sectionOf, ownerView_cat]
      rw [show s.cat.find (f.nat 0 2) = some (i, e) from found]
      exact congrArg (ownerView s f).capture (entryStateBytes_eq s i e)
    · obtain ⟨k, -, -, -, -, -, owner⟩ := versioned other
      rw [owner, none_]
      rfl
    · refine ⟨fun two => ?_, fun three => ?_, fun four => ?_⟩
      · obtain ⟨k, -, -, code, -, -, owner⟩ := versioned (by omega)
        rw [some_, code two] at owner
        exact captures owner
      · obtain ⟨k, -, -, -, code, -, owner⟩ := versioned (by omega)
        rw [some_, code three] at owner
        exact captures owner
      · obtain ⟨k, -, -, -, -, code, owner⟩ := versioned (by omega)
        rw [some_, code four] at owner
        exact captures owner

/-! ### The stamps (R20, R21) -/

section Stamps

variable {s : State} {f : Frame} {k : Fin 32}

theorem stampCodeOf_of_high {n : Nat} (h : 31 < n) : stampCodeOf n = none := dif_neg (by omega)

theorem stampCodeOf_val (k : Fin 32) : stampCodeOf k.val = some k := dif_pos k.isLt

theorem stampInUse_iff (s : State) (code : Nat) : s.stampInUse code = true ↔
    ∃ e ∈ s.cat.entries, ∃ c : Ctx, ∃ k, (s.ctx c).resolve e.2 = some k ∧ ∃ p ∈ k.version.defects, p.stamp = code := by
  have either {p : Context → Prop} : (∃ x ∈ s.exc.contexts, p x) ↔ ∃ c, p (s.ctx c) := by
    constructor
    · rintro ⟨x, hx, h⟩
      rcases List.mem_cons.1 hx with rfl | hx
      · exact ⟨.A, h⟩
      · obtain rfl := List.mem_singleton.1 hx
        exact ⟨.B, h⟩
    · rintro ⟨c, h⟩
      cases c with
      | A => exact ⟨_, .head _, h⟩
      | B => exact ⟨_, .tail _ (.head _), h⟩
  simp only [State.stampInUse, List.any_eq_true, Option.any_eq_true, Version.usesStamp, beq_iff_eq, either]

theorem writeStamp_of_code (named : k.val = f.nat 0 1) : State.writeStamp f s =
    if s.catalogueBusy then (s, .refuse .busy)
    else if s.stampInUse (f.nat 0 1) then (s, .refuse .inUse)
    else ({ s with cat.stamps := s.cat.stamps.set k (f.stamp 1) }, .ok) := by
  rw [State.writeStamp, ← named, stampCodeOf_val]

theorem readStamp_of_code (named : k.val = f.nat 0 1) : State.readStamp f s =
    s.capture (s.cat.stamps[k].toList ++ flagByte (s.stampInUse (f.nat 0 1))) := by
  rw [State.readStamp, ← named, stampCodeOf_val]

/-- The rows of a stamp are the payload after its code. -/
theorem stamp_toList (length : f.payload.length = 9) : (f.stamp 1).toList = f.payload.drop 1 := by
  refine List.ext_getElem (by simp [length]) fun i h1 h2 => ?_
  have hi : i + 1 < f.payload.length := by
    simp at h2
    omega
  simp [Frame.stamp, Nat.add_comm 1 i, List.getElem?_eq_getElem hi]

end Stamps

/-- Settles O25: a stamp code, BUSY, the stamp in use; then the rows are written, or read. -/
theorem stampsInUseAreNotRewritten : Obligations.StampsInUseAreNotRewritten := by
  intro s f hr code inUse
  have used : (ownerView s f).stampInUse code = true ↔ inUse := stampInUse_iff s code
  refine ⟨fun hlen => ?_, fun hlen => ?_⟩
  · have fits : f.fits 9 = true := (fits_iff f 9).2 hlen
    have answers {a : Answer} (ho : State.writeStamp f (ownerView s f) = (ownerView s f, a)) :
        exec (.writeStamp f) s = .next (s.answered f a.status a.payload) :=
      congrArg Host.Outcome.next (request_only_answers hr fits ho)
    refine ⟨fun high => answers (a := .invalid 35) ?_, fun low busy => answers (a := .refuse .busy) ?_,
      fun low free use => answers (a := .refuse .inUse) ?_, fun k named free unused => ?_⟩
    · rw [State.writeStamp, stampCodeOf_of_high high]
    · rw [writeStamp_of_code (k := ⟨code, by omega⟩) rfl]
      exact if_pos busy
    · rw [writeStamp_of_code (k := ⟨code, by omega⟩) rfl]
      exact (if_neg (by rw [show (ownerView s f).catalogueBusy = false from free]; decide)).trans (if_pos (used.2 use))
    · have owner := writeStamp_of_code (s := ownerView s f) (f := f) named
      rw [if_neg (by rw [show (ownerView s f).catalogueBusy = false from free]; decide),
        if_neg fun use => unused (used.1 use)] at owner
      refine ⟨_, congrArg Host.Outcome.next (request_writes_cat hr fits owner), rfl, ?_, fun j other => ?_⟩
      · exact (congrArg Vector.toList (Vector.getElem_set_self (xs := s.cat.stamps) k.isLt)).trans (stamp_toList hlen)
      · exact Vector.getElem_set_ne (xs := s.cat.stamps) k.isLt j.isLt fun same => other (Fin.ext same.symm)
  · have fits : f.fits 1 = true := (fits_iff f 1).2 hlen
    have captures {items : List Byte} (ho : State.readStamp f (ownerView s f) = (ownerView s f).capture items) :
        exec (.readStamp f) s = .next (s.captured f items) := congrArg Host.Outcome.next (request_captures hr fits ho)
    refine ⟨fun high => congrArg Host.Outcome.next (request_only_answers (a := .invalid 35) hr fits ?_),
      fun k named use => captures ?_, fun k named unused => captures ?_⟩
    · rw [State.readStamp, stampCodeOf_of_high high]
    · rw [readStamp_of_code named, used.2 use]
      rfl
    · rw [readStamp_of_code named, Bool.eq_false_iff.2 fun use => unused (used.1 use)]
      rfl

/-! ### The signature walk (R22 to R25) -/

/-- Settles O26: a walk begins at the start of its CRC; what READ SIGNATURE gives follows the status. -/
theorem signatureWalkBeginsAtSegmentZero : Obligations.SignatureWalkBeginsAtSegmentZero := by
  intro s f hr hp
  have fits : f.fits 0 = true := (fits_iff f 0).2 (by rw [hp, List.length_nil])
  have captures {items : List Byte} (ho : State.readSignature (ownerView s f) = (ownerView s f).capture items) :
      exec (.readSignature f) s = .next (s.captured f items) := congrArg Host.Outcome.next (request_captures hr fits ho)
  refine ⟨fun busy => congrArg Host.Outcome.next (request_only_answers (a := .refuse .busy) hr fits ?_),
    fun none_ => congrArg Host.Outcome.next ((request_places (a := .refuse .accepted) hr fits (if_neg ?_)).trans rfl),
    fun none_ => captures ?_, fun running => captures ?_, fun signed => captures ?_, fun disturbed => captures ?_⟩
  · exact if_pos (Option.isSome_iff_ne_none.2 busy)
  · exact fun h => absurd none_ (Option.isSome_iff_ne_none.1 h)
  all_goals
    rw [State.readSignature]
    simp only [ownerView_cat, *]
  · exact congrArg (ownerView s f).capture (by decide : bytesOf 1 0 ++ bytesOf 4 0 ++ bytesOf 2 0 = [0, 0, 0, 0, 0, 0, 0])
  · rfl
  all_goals
    exact congrArg (ownerView s f).capture (congrArg _ (by decide : bytesOf 2 0 = [0, 0]))

/-- One entry in the search for the smallest segment id at or above a position. -/
def foldStep (position : Nat) (best : Option Entry) (e : Nat × Entry) : Option Entry :=
  if e.2.seg < position then best
  else match best with
    | none => some e.2
    | some b => if e.2.seg < b.seg then some e.2 else some b

theorem nextFold_eq (c : Cat) (position : Nat) : c.nextFold position = c.entries.foldl (foldStep position) none := rfl

theorem foldStep_of_low {position : Nat} {e : Nat × Entry} (best : Option Entry) (low : e.2.seg < position) :
    foldStep position best e = best := if_pos low

theorem foldStep_none {position : Nat} {e : Nat × Entry} (high : position ≤ e.2.seg) :
    foldStep position none e = some e.2 := if_neg (Nat.not_lt.2 high)

theorem foldStep_some {position : Nat} {b : Entry} {e : Nat × Entry} (high : position ≤ e.2.seg) :
    foldStep position (some b) e = if e.2.seg < b.seg then some e.2 else some b := if_neg (Nat.not_lt.2 high)

/-- The search passes over entries below the position. -/
theorem foldl_foldStep_below {position : Nat} {l : List (Nat × Entry)} (below : ∀ k ∈ l, k.2.seg < position)
    (best : Option Entry) : l.foldl (foldStep position) best = best := by
  induction l with
  | nil => rfl
  | cons k l ih =>
    rw [List.foldl_cons, foldStep_of_low best (below k (.head _))]
    exact ih fun k hk => below k (.tail _ hk)

/-- Once found, the least entry stays found. -/
theorem foldl_foldStep_found {position : Nat} {l : List (Nat × Entry)} {e : Nat × Entry}
    (least : ∀ k ∈ l, position ≤ k.2.seg → k = e ∨ e.2.seg < k.2.seg) :
    l.foldl (foldStep position) (some e.2) = some e.2 := by
  induction l with
  | nil => rfl
  | cons k l ih =>
    have stays : foldStep position (some e.2) k = some e.2 := by
      by_cases low : k.2.seg < position
      · exact foldStep_of_low _ low
      · rw [foldStep_some (Nat.not_lt.1 low)]
        rcases least k (.head _) (Nat.not_lt.1 low) with rfl | above
        · exact if_neg (Nat.lt_irrefl _)
        · exact if_neg (Nat.lt_asymm above)
    rw [List.foldl_cons, stays]
    exact ih fun k hk => least k (.tail _ hk)

/-- Until the least entry is met, what is found is above it. -/
theorem foldl_foldStep_least {position : Nat} {l : List (Nat × Entry)} {e : Nat × Entry} (he : e ∈ l)
    (high : position ≤ e.2.seg) (least : ∀ k ∈ l, position ≤ k.2.seg → k = e ∨ e.2.seg < k.2.seg) {best : Option Entry}
    (above : ∀ b, best = some b → e.2.seg < b.seg) : l.foldl (foldStep position) best = some e.2 := by
  induction l generalizing best with
  | nil => nomatch he
  | cons k l ih =>
    have rest : ∀ k ∈ l, position ≤ k.2.seg → k = e ∨ e.2.seg < k.2.seg := fun k hk => least k (.tail _ hk)
    rw [List.foldl_cons]
    by_cases same : k = e
    · subst same
      have found : foldStep position best k = some k.2 := by
        cases best with
        | none => exact foldStep_none high
        | some b => exact (foldStep_some high).trans (if_pos (above b rfl))
      rw [found, foldl_foldStep_found rest]
    · refine ih ((List.mem_cons.1 he).resolve_left (Ne.symm same)) rest fun b hb => ?_
      by_cases low : k.2.seg < position
      · rw [foldStep_of_low best low] at hb
        exact above b hb
      · have over_ := (least k (.head _) (Nat.not_lt.1 low)).resolve_left same
        cases best with
        | none =>
          rw [foldStep_none (Nat.not_lt.1 low)] at hb
          exact Option.some.inj hb ▸ over_
        | some b' =>
          rw [foldStep_some (Nat.not_lt.1 low)] at hb
          split at hb
          · exact Option.some.inj hb ▸ over_
          · exact Option.some.inj hb ▸ above b' rfl

/-- The bytes an entry step folds (R23). -/
theorem foldBytes_eq (e : Entry) : e.foldBytes = bytesOf 2 e.seg ++ bytesOf 1 e.state.code ++ flagByte e.suspect
    ++ match e.installed.getLast? with
       | none => [0]
       | some k => [1] ++ k.version.geometryBytes ++ k.version.calibrationBytes ++ k.version.defectBytes := by
  unfold Entry.foldBytes
  cases e.installed.getLast? <;> rfl

/-- The part after an entry step folded some bytes and passed a segment. -/
def folded (s : State) (seg : Nat) (bytes : List Byte) : State :=
  { s with cat := { s.cat with sign := { s.cat.sign with
      crc := crc32Bytes s.cat.sign.crc bytes, position := seg + 1 } } }

theorem exec_signatureEntryStep {s : State} {e : Entry} (running : s.cat.sign.status = .running)
    (found : s.cat.nextFold s.cat.sign.position = some e) :
    exec .signatureEntryStep s = .next (folded s e.seg e.foldBytes) := by
  change execSignatureEntryStep s = _
  rw [execSignatureEntryStep, if_pos running]
  simp only [found]
  rfl

/-- Settles O27: an entry step folds the entry found and passes it; the stamp step folds the stamps and completes. -/
theorem signatureStepsFoldEntriesThenStamps : Obligations.SignatureStepsFoldEntriesThenStamps := by
  intro s running
  refine ⟨fun e he high least => ?_, fun tag long below => ?_⟩
  · have found : s.cat.nextFold s.cat.sign.position = some e.2 :=
      foldl_foldStep_least he high least fun b hb => nomatch hb
    exact (exec_signatureEntryStep running found).trans
      (congrArg (fun bytes => Host.Outcome.next (folded s e.2.seg bytes)) (foldBytes_eq e.2))
  · have none_ : s.cat.nextFold s.cat.sign.position = none := foldl_foldStep_below below none
    intro crc
    change execSignatureStampStep s = _
    rw [execSignatureStampStep, if_pos ⟨running, none_⟩]
    simp only [State.completeLong, long]
    rfl

end Sys2Proof.Proofs

/-! ## Proofs: what the shared effects on strips leave (R17, R64, R72, R76, R84 to R88)

Each effect of the model that ends or abandons strips, as the one state that the statements write for it. -/

namespace Sys2Proof.Proofs

open Sys2Proof Sys2Proof.Machine Sys2Proof.Laws

/-! ### Refusals counted (R64) -/

theorem raisedBy_zero (limit old : Nat) : raisedBy limit old 0 = old := rfl

theorem raisedBy_add (limit old n m : Nat) : raisedBy limit (raisedBy limit old n) m = raisedBy limit old (n + m) := by
  unfold raisedBy
  split_ifs <;> omega

section Refusals

variable {x : Context} {code : VerdictCode}

theorem mapIdx_raisedBy_zero (l : Vector Nat 13) (code : VerdictCode) :
    (l.mapIdx fun i r => if i + 1 = code.toNat then raisedBy 4294967295 r 0 else r) = l := by
  ext i
  simp [raisedBy_zero]

theorem mapIdx_raisedBy_add (l : Vector Nat 13) (code : VerdictCode) (n m : Nat) :
    ((l.mapIdx fun i r => if i + 1 = code.toNat then raisedBy 4294967295 r n else r).mapIdx fun i r =>
      if i + 1 = code.toNat then raisedBy 4294967295 r m else r) =
    l.mapIdx fun i r => if i + 1 = code.toNat then raisedBy 4294967295 r (n + m) else r := by
  ext i hi
  simp only [Vector.getElem_mapIdx]
  split
  · exact raisedBy_add ..
  · rfl

theorem refusedBy_zero (x : Context) (code : VerdictCode) : x.refusedBy code 0 = x := by
  unfold Context.refusedBy
  rw [mapIdx_raisedBy_zero]
  split <;> rfl

@[simp] theorem refusedBy_isOpen (n : Nat) : (x.refusedBy code n).isOpen = x.isOpen := by
  unfold Context.refusedBy
  split <;> rfl

@[simp] theorem refusedBy_state (n : Nat) : (x.refusedBy code n).state = x.state := by
  unfold Context.refusedBy
  split <;> rfl

@[simp] theorem refusedBy_number (n : Nat) : (x.refusedBy code n).number = x.number := by
  unfold Context.refusedBy
  split <;> rfl

@[simp] theorem refusedBy_progress (n : Nat) : (x.refusedBy code n).progress = x.progress := by
  unfold Context.refusedBy
  split <;> rfl

@[simp] theorem refusedBy_fixed (n : Nat) : (x.refusedBy code n).summary.fixed = x.summary.fixed := by
  unfold Context.refusedBy
  split <;> rfl

theorem refusedBy_of_counted (counted : x.isOpen = true ∧ x.summary.fixed = none) (n : Nat) : x.refusedBy code n =
    { x with summary := { x.summary with refusals := x.summary.refusals.mapIdx fun i r =>
        if i + 1 = code.toNat then raisedBy 4294967295 r n else r } } := if_pos counted

theorem refusedBy_of_uncounted (counted : ¬(x.isOpen = true ∧ x.summary.fixed = none)) (n : Nat) :
    x.refusedBy code n = x := if_neg counted

theorem refusedBy_add (n m : Nat) : (x.refusedBy code n).refusedBy code m = x.refusedBy code (n + m) := by
  by_cases counted : x.isOpen = true ∧ x.summary.fixed = none
  · have still : (x.refusedBy code n).isOpen = true ∧ (x.refusedBy code n).summary.fixed = none := by
      rwa [refusedBy_isOpen, refusedBy_fixed]
    rw [refusedBy_of_counted still, refusedBy_of_counted counted, refusedBy_of_counted counted]
    simp only [mapIdx_raisedBy_add]
  · rw [refusedBy_of_uncounted counted, refusedBy_of_uncounted counted, refusedBy_of_uncounted counted]

/-- One refusal counted. -/
theorem count_refuse (x : Context) (code : VerdictCode) : (x.count fun m => m.refuse code) = x.refusedBy code 1 := by
  unfold Context.count Context.refusedBy
  simp only [Bool.and_eq_true, Option.isNone_iff_eq_none]
  rfl

end Refusals

section Counted

variable {x : Exc} {code : VerdictCode}

@[simp] theorem refusalsCounted_carrying (l : List Nat) (n : Nat) : (x.refusalsCounted l code).carrying n = x.carrying n := by
  simp [Exc.carrying, Exc.refusalsCounted]

theorem refusalsCounted_ctx (l : List Nat) (c : Ctx) :
    (x.refusalsCounted l code).ctx c = (x.ctx c).refusedBy code (l.countP fun n => x.carrying n == some c) := by
  cases c <;> rfl

@[simp] theorem refusalsCounted_nextExpected (l : List Nat) (n seg : Nat) :
    (x.refusalsCounted l code).nextExpected n seg = x.nextExpected n seg := by
  simp only [Exc.nextExpected, refusalsCounted_carrying, refusalsCounted_ctx, Context.record, refusedBy_progress]

theorem refusalsCounted_nil (x : Exc) (code : VerdictCode) : x.refusalsCounted [] code = x := by
  simp only [Exc.refusalsCounted, List.countP_nil, refusedBy_zero]

theorem refusalsCounted_append (l l' : List Nat) :
    (x.refusalsCounted l code).refusalsCounted l' code = x.refusalsCounted (l ++ l') code := by
  rw [Exc.refusalsCounted.eq_def (x.refusalsCounted l code)]
  simp only [refusalsCounted_carrying]
  simp only [Exc.refusalsCounted, refusedBy_add, List.countP_append]

theorem countRefusal_eq (s : State) (exposure : Nat) (code : VerdictCode) :
    s.countRefusal exposure code = { s with exc := s.exc.refusalsCounted [exposure] code } := by
  unfold State.countRefusal
  cases carried : s.exc.carrying exposure with
  | none =>
    have uncounted : s.exc.refusalsCounted [exposure] code = s.exc := by
      simp [Exc.refusalsCounted, carried, refusedBy_zero]
    rw [uncounted]
  | some c =>
    simp only [State.count, State.changeCtx, count_refuse]
    cases c <;> simp [Exc.refusalsCounted, carried, refusedBy_zero, Exc.setCtx, Exc.ctx]

end Counted

/-! ### Markers cleared (R17) -/

theorem unmarked_of_none {c : Cat} {test : Marker → Bool} (h : ∀ m, test m = false) : c.unmarked test = c := by
  have same : (c.entries.map fun e => (e.1, if e.2.marker.any test = true then { e.2 with marker := none } else e.2)) =
      c.entries := by
    refine (List.map_congr_left fun e _ => ?_).trans (List.map_id _)
    rw [if_neg]
    · rfl
    · cases e.2.marker <;> simp [h]
  rw [Cat.unmarked, same]

theorem unmarked_unmarked (c : Cat) (test test' : Marker → Bool) :
    (c.unmarked test).unmarked test' = c.unmarked fun m => test m || test' m := by
  simp only [Cat.unmarked, List.map_map]
  congr 1
  refine List.map_congr_left fun e _ => ?_
  simp only [Function.comp]
  cases h : e.2.marker with
  | none => simp [h]
  | some m =>
    by_cases first : test m = true
    · simp [first]
    · simp [first, h]

theorem marker_beq (m : Marker) (p : Fin 4) (b : Fin 2) :
    (m == { port := p, buffer := b }) = (m.port == p && m.buffer == b) := by
  rw [Bool.eq_iff_iff]
  cases m
  simp

theorem clearMarker_eq (c : Cat) (p : Fin 4) (b : Fin 2) :
    c.clearMarker p b = c.unmarked fun m => m == { port := p, buffer := b } := by
  simp only [Cat.clearMarker, Cat.mapEntries, Cat.unmarked]
  congr 1
  refine List.map_congr_left fun e _ => ?_
  cases e.2.marker <;> simp

/-! ### Entries of ports and buffers -/

section Entries

variable {α : Type} {n : Nat}

theorem set_entry_self (v : Vector α n) (i : Fin n) (a : α) : (v.set i a)[i] = a := Vector.getElem_set_self ..

theorem set_entry_other (v : Vector α n) {i j : Fin n} (a : α) (h : j ≠ i) : (v.set i a)[j] = v[j] :=
  Vector.getElem_set_ne _ _ fun same => h (Fin.ext same.symm)

theorem set_entry_same (v : Vector α n) (i : Fin n) : v.set i v[i] = v := Vector.set_getElem_self ..

theorem vector_ext {v w : Vector α n} (h : ∀ i : Fin n, v[i] = w[i]) : v = w := Vector.ext fun i hi => h ⟨i, hi⟩

end Entries

/-! ### A strip's verdict, and its buffer freed (R74, R85, R86) -/

theorem queue_eq (q : Port) (v : Verdict) :
    q.queue v = { q with verdicts := if q.up = true ∧ q.verdicts.length < 8 then q.verdicts ++ [v] else q.verdicts } := by
  simp only [Port.queue, Config.verdictMax, Bool.and_eq_true, decide_eq_true_eq]
  split <;> rfl

/-- A port after the strip of a buffer got its verdict and the buffer became IDLE. -/
def verdictGiven (q : Port) (b : Fin 2) (v : Verdict) : Port :=
  { q with
    buffers := q.buffers.set b .idle
    older := none
    verdicts := if q.up = true ∧ q.verdicts.length < 8 then q.verdicts ++ [v] else q.verdicts }

theorem giveVerdict_eq (s : State) (p : Fin 4) (exposure seg first : Nat) (code : VerdictCode) :
    s.giveVerdict p exposure seg first code = { s with
      ports := s.ports.set p (s.ports[p].queue
        { seg := seg, first := first, code := code, next := s.exc.nextExpected exposure seg })
      exc := s.exc.refusalsCounted [exposure] code } := by
  rw [State.giveVerdict, countRefusal_eq]
  rfl

theorem giveVerdict_freeBuffer (s : State) (p : Fin 4) (b : Fin 2) (u : Strip) (code : VerdictCode) :
    (s.giveVerdict p u.exposure u.seg u.first code).freeBuffer p b = { s with
      ports := s.ports.set p (verdictGiven s.ports[p] b (u.verdict s.exc code))
      exc := s.exc.refusalsCounted [u.exposure] code
      cat := s.cat.unmarked fun m => m == { port := p, buffer := b } } := by
  rw [giveVerdict_eq, State.freeBuffer, State.changePort, clearMarker_eq, queue_eq]
  simp only [set_entry_self, Vector.set_set]
  rfl

/-! ### A strip that ends BROKEN or CRC (R15, R84) -/

theorem becomesSuspect_eq (e : Entry) (limit : Nat) :
    e.becomesSuspect limit = decide (limit ≠ 0 ∧ limit ≤ min 15 (e.broken + 1) ∧ e.suspect = false) := by
  simp only [Entry.becomesSuspect, Entry.brokenNext, Config.brokenMax]
  cases e.suspect <;> simp [bne, ← Bool.beq_eq_decide_eq]

theorem find_unmarked (c : Cat) (test : Marker → Bool) (seg : Nat) : (c.unmarked test).find seg =
    (c.find seg).map fun e => (e.1, if e.2.marker.any test = true then { e.2 with marker := none } else e.2) := by
  simp only [Cat.find, Cat.unmarked, List.find?_map]
  congr 2
  funext e
  simp only [Function.comp]
  split <;> rfl

/-- A broken-strip report: the count, the suspect flag, and SUSPECT when it turns (R15). -/
theorem brokenReport_eq (s : State) (seg : Nat) :
    let turns (e : Entry) : Bool := e.becomesSuspect s.params.brokenLimit
    s.brokenReport seg = { s with
      cat := { s.cat with entries := s.cat.entries.map fun e =>
        (e.1, if e.2.seg = seg then { e.2 with broken := min 15 (e.2.broken + 1), suspect := e.2.suspect || turns e.2 }
          else e.2) }
      att := { s.att with flags := s.att.flags |||
        if (s.cat.find seg).any (fun e => turns e.2) = true then 0b10000#9 else 0 } } := by
  intro turns
  have unraised : s.att.flags ||| 0 = s.att.flags := BitVec.or_zero
  unfold State.brokenReport
  cases found : s.cat.find seg with
  | none =>
    simp only [Option.any_none, Bool.false_eq_true, if_false, unraised]
    rfl
  | some e =>
    simp only [Option.any_some]
    by_cases turned : turns e.2 = true
    · rw [if_pos turned, if_pos turned]
      rfl
    · rw [if_neg turned, if_neg turned, unraised]
      rfl

theorem breakStrip_eq (s : State) (p : Fin 4) (b : Fin 2) (u : Strip) (code : VerdictCode) :
    s.breakStrip p b u code = s.brokenBy p b u code := by
  rw [State.breakStrip, giveVerdict_freeBuffer, brokenReport_eq]
  have turns : ((s.cat.unmarked fun m => m == { port := p, buffer := b }).find u.seg).any
      (fun e => e.2.becomesSuspect s.params.brokenLimit) =
      (s.cat.find u.seg).any fun e => e.2.becomesSuspect s.params.brokenLimit := by
    rw [find_unmarked, Option.any_map]
    congr 1
    funext e
    simp only
    split <;> rfl
  simp only [turns, State.brokenBy, ← becomesSuspect_eq]
  rfl

/-! ### Strips that another block abandons (R88) -/

section Abandon

variable {test : Strip → Bool} {code : VerdictCode}

/-- The strip of a buffer that an abandonment reaches, if it does. -/
def reachedIn (u : Buffer) (test : Strip → Bool) : Option Strip := (u.abandonable?).filter test

/-- A port after one of its buffers was looked at by an abandonment. -/
def abandonedIn (q : Port) (x : Exc) (test : Strip → Bool) (code : VerdictCode) (b : Fin 2) : Port :=
  let gone := (reachedIn q.buffers[b] test).toList
  { q with
    buffers := if gone = [] then q.buffers else q.buffers.set b .idle
    older := if gone = [] then q.older else none
    receive := if gone ≠ [] ∧ q.buffers[b].isReceiving = true then .discarding else q.receive
    verdicts := if q.up = true
      then q.verdicts ++ (gone.map fun u => u.verdict x code).take (8 - q.verdicts.length)
      else q.verdicts }

theorem reachedIn_isSome (u : Buffer) (test : Strip → Bool) :
    (reachedIn u test).isSome = (u.abandonable?).any test := by
  unfold reachedIn
  cases u.abandonable? <;> simp [Option.filter]
  split <;> simp_all

theorem abandonedIn_of_none {q : Port} {x : Exc} {b : Fin 2} (none_ : reachedIn q.buffers[b] test = none) :
    abandonedIn q x test code b = q := by
  simp only [abandonedIn, none_, Option.toList_none, if_true, List.map_nil, List.take_nil, List.append_nil]
  simp

theorem abandonedIn_of_some {q : Port} {x : Exc} {b : Fin 2} {u : Strip} (some_ : reachedIn q.buffers[b] test = some u) :
    abandonedIn q x test code b = { verdictGiven q b (u.verdict x code) with
      receive := if q.buffers[b].isReceiving = true then .discarding else q.receive } := by
  have verdicts : (if q.up = true then q.verdicts ++ ([u].map fun u => u.verdict x code).take (8 - q.verdicts.length)
      else q.verdicts) =
      if q.up = true ∧ q.verdicts.length < 8 then q.verdicts ++ [u.verdict x code] else q.verdicts := by
    by_cases room : q.verdicts.length < 8
    · rw [List.take_of_length_le (by simp; omega)]
      simp [room]
    · rw [show 8 - q.verdicts.length = 0 by omega]
      simp [room]
  simp only [abandonedIn, some_, Option.toList_some, verdicts, verdictGiven]
  simp

theorem abandon_step (s : State) (p : Fin 4) (b : Fin 2) :
    (if ((s.port p).buffers[b].abandonable?).any test = true then s.abandon p b code else s) = { s with
      ports := s.ports.set p (abandonedIn s.ports[p] s.exc test code b)
      exc := s.exc.refusalsCounted ((reachedIn s.ports[p].buffers[b] test).toList.map fun u => u.exposure) code
      cat := s.cat.unmarked fun m => m == { port := p, buffer := b } && (reachedIn s.ports[p].buffers[b] test).isSome } := by
  rw [← reachedIn_isSome]
  cases reached : reachedIn s.ports[p].buffers[b] test with
  | none =>
    have unmarked : (s.cat.unmarked fun m => m == { port := p, buffer := b } && (none : Option Strip).isSome) = s.cat :=
      unmarked_of_none fun m => by simp
    rw [if_neg (by rw [State.port, reached]; decide), unmarked, abandonedIn_of_none reached]
    simp only [Option.toList_none, List.map_nil, refusalsCounted_nil, set_entry_same]
  | some u =>
    have held : s.ports[p].buffers[b].abandonable? = some u := (Option.filter_eq_some_iff.1 reached).1
    rw [if_pos (by rw [State.port, reached]; rfl), abandonedIn_of_some reached]
    unfold State.abandon
    simp only [State.port, held, giveVerdict_freeBuffer, Option.toList_some, List.map_cons, List.map_nil,
      Option.isSome_some, Bool.and_true]
    by_cases receiving : s.ports[p].buffers[b].isReceiving = true
    · simp only [receiving, if_true, State.changePort, set_entry_self, Vector.set_set]
    · simp only [receiving, if_false, Bool.false_eq_true]
      rfl

theorem verdict_refusalsCounted (u : Strip) (x : Exc) (l : List Nat) (code code' : VerdictCode) :
    u.verdict (x.refusalsCounted l code') code = u.verdict x code := by
  simp only [Strip.verdict, refusalsCounted_nextExpected]

/-- What fits into a queue, first one list and then another. -/
theorem take_append_take {α : Type} (v l l' : List α) (n : Nat) :
    v ++ l.take (n - v.length) ++ l'.take (n - (v ++ l.take (n - v.length)).length) =
      v ++ (l ++ l').take (n - v.length) := by
  rw [List.append_assoc, List.take_append, List.length_append, List.length_take]
  congr 3
  omega

theorem otherBuffer_ne (b : Fin 2) : otherBuffer b ≠ b := by
  revert b
  decide

theorem eq_or_otherBuffer (b i : Fin 2) : i = b ∨ i = otherBuffer b := by
  revert b i
  decide

/-- The buffers of a port in the order of their age are one and the other. -/
theorem oldestFirst_eq (q : Port) : ∃ b, q.oldestFirst = [b, otherBuffer b] := by
  unfold Port.oldestFirst
  cases q.older with
  | some b => exact ⟨b, rfl⟩
  | none => exact ⟨0, rfl⟩

theorem abandonedIn_buffer {q : Port} {x : Exc} (b i : Fin 2) : (abandonedIn q x test code b).buffers[i] =
    if i = b ∧ (q.buffers[b].abandonable?).any test = true then .idle else q.buffers[i] := by
  rw [← reachedIn_isSome]
  cases reached : reachedIn q.buffers[b] test with
  | none => simp [abandonedIn_of_none reached]
  | some u =>
    rw [abandonedIn_of_some reached]
    simp only [verdictGiven, Option.isSome_some, and_true]
    by_cases same : i = b
    · subst same
      exact (set_entry_self ..).trans (if_pos rfl).symm
    · exact (set_entry_other _ _ same).trans (if_neg same).symm

theorem reached_eq {q : Port} {b : Fin 2} (order : q.oldestFirst = [b, otherBuffer b]) : q.reached test =
    (reachedIn q.buffers[b] test).toList ++ (reachedIn q.buffers[otherBuffer b] test).toList := by
  simp only [Port.reached, order, List.filterMap_cons, List.filterMap_nil, reachedIn]
  cases (q.buffers[b].abandonable?).filter test <;>
    cases (q.buffers[otherBuffer b].abandonable?).filter test <;> rfl

theorem reachedIn_toList_eq_nil {u : Buffer} : (reachedIn u test).toList = [] ↔ (u.abandonable?).any test = false := by
  rw [← reachedIn_isSome]
  cases reachedIn u test <;> simp

theorem buffers_toList (q : Port) : q.buffers.toList = [q.buffers[(0 : Fin 2)], q.buffers[(1 : Fin 2)]] := by
  refine List.ext_getElem (by simp) fun i h1 h2 => ?_
  match i with
  | 0 => rfl
  | 1 => rfl
  | i + 2 => simp at h2

/-- Of the two buffers of a port, one passes. -/
theorem any_buffers (q : Port) (b : Fin 2) (f : Buffer → Bool) :
    q.buffers.toList.any f = (f q.buffers[b] || f q.buffers[otherBuffer b]) := by
  rw [buffers_toList]
  match b with
  | 0 => simp [otherBuffer]
  | 1 =>
    rw [Bool.or_comm]
    simp [otherBuffer]

theorem port_ext {q r : Port} (sync : q.sync = r.sync) (up : q.up = r.up) (receive : q.receive = r.receive)
    (buffers : q.buffers = r.buffers) (older : q.older = r.older) (verdicts : q.verdicts = r.verdicts)
    (seen : q.headersSeen = r.headersSeen) (unknown : q.refusedUnknown = r.refusedUnknown)
    (down : q.abandonedDown = r.abandonedDown) (back : q.backChannel = r.backChannel) : q = r := by
  cases q
  cases r
  simp_all

section Fields

variable (q : Port) (x : Exc) (b : Fin 2)

theorem abandonedIn_older : (abandonedIn q x test code b).older =
    if (reachedIn q.buffers[b] test).toList = [] then q.older else none := rfl

theorem abandonedIn_receive : (abandonedIn q x test code b).receive =
    if (reachedIn q.buffers[b] test).toList ≠ [] ∧ q.buffers[b].isReceiving = true then .discarding else q.receive := rfl

theorem abandonedIn_verdicts : (abandonedIn q x test code b).verdicts = if q.up = true
    then q.verdicts ++ ((reachedIn q.buffers[b] test).toList.map fun u => u.verdict x code).take (8 - q.verdicts.length)
    else q.verdicts := rfl

theorem abandonedIn_up : (abandonedIn q x test code b).up = q.up := rfl

end Fields

/-- One buffer and then the other: the whole port. -/
theorem abandonedIn_both {q : Port} {x x' : Exc} {b : Fin 2} (order : q.oldestFirst = [b, otherBuffer b])
    (same : ∀ u : Strip, u.verdict x' code = u.verdict x code) :
    abandonedIn (abandonedIn q x test code b) x' test code (otherBuffer b) = q.abandonedBy x test code := by
  have second : (abandonedIn q x test code b).buffers[otherBuffer b] = q.buffers[otherBuffer b] := by
    rw [abandonedIn_buffer, if_neg fun h => otherBuffer_ne b h.1]
  refine port_ext rfl rfl ?receive ?buffers ?older ?verdicts rfl rfl rfl rfl
  case buffers =>
    refine vector_ext fun i => ?_
    have mapped : (q.abandonedBy x test code).buffers[i] =
        if (q.buffers[i].abandonable?).any test = true then .idle else q.buffers[i] := by
      simp [Port.abandonedBy]
    rw [abandonedIn_buffer, second, abandonedIn_buffer, mapped]
    rcases eq_or_otherBuffer b i with rfl | rfl
    · simp [(otherBuffer_ne i).symm]
    · simp [otherBuffer_ne b]
  case older =>
    simp only [Port.abandonedBy, reached_eq order, List.append_eq_nil_iff, abandonedIn_older, second]
    split_ifs <;> tauto
  case receive =>
    simp only [Port.abandonedBy, any_buffers q b, abandonedIn_receive, second, ne_eq, reachedIn_toList_eq_nil]
    cases (q.buffers[b].abandonable?).any test <;> cases q.buffers[b].isReceiving <;>
      cases (q.buffers[otherBuffer b].abandonable?).any test <;> simp
  case verdicts =>
    simp only [Port.abandonedBy, reached_eq order, List.map_append, abandonedIn_verdicts, abandonedIn_up, second, same]
    split
    · exact take_append_take ..
    · rfl

/-- One port's strips abandoned, the older first. -/
theorem abandon_port (s : State) (p : Fin 4) :
    (s.port p).oldestFirst.foldl (fun s b =>
      if ((s.port p).buffers[b].abandonable?).any test then s.abandon p b code else s) s = { s with
      ports := s.ports.set p (s.ports[p].abandonedBy s.exc test code)
      exc := s.exc.refusalsCounted ((s.ports[p].reached test).map fun u => u.exposure) code
      cat := s.cat.unmarked fun m => m.port == p && (s.ports[p].buffers[m.buffer].abandonable?).any test } := by
  obtain ⟨b, order⟩ : ∃ b, s.ports[p].oldestFirst = [b, otherBuffer b] := oldestFirst_eq s.ports[p]
  have other : (abandonedIn s.ports[p] s.exc test code b).buffers[otherBuffer b] =
      s.ports[p].buffers[otherBuffer b] := by
    rw [abandonedIn_buffer, if_neg fun h => otherBuffer_ne b h.1]
  rw [show (s.port p).oldestFirst = [b, otherBuffer b] from order, List.foldl_cons, List.foldl_cons, List.foldl_nil,
    abandon_step, abandon_step]
  simp only [set_entry_self, Vector.set_set, other, refusalsCounted_append, unmarked_unmarked,
    abandonedIn_both order fun u => verdict_refusalsCounted u s.exc _ code code]
  rw [reached_eq order, List.map_append]
  have marked : (fun m : Marker => m == { port := p, buffer := b } && (reachedIn s.ports[p].buffers[b] test).isSome ||
      m == { port := p, buffer := otherBuffer b } && (reachedIn s.ports[p].buffers[otherBuffer b] test).isSome) =
      fun m => m.port == p && (s.ports[p].buffers[m.buffer].abandonable?).any test := by
    funext m
    rw [reachedIn_isSome, reachedIn_isSome, marker_beq, marker_beq, Bool.and_assoc, Bool.and_assoc, ← Bool.and_or_distrib_left]
    obtain ⟨port, buffer⟩ := m
    rcases eq_or_otherBuffer b buffer with rfl | rfl
    · simp [beq_eq_false_iff_ne.2 (otherBuffer_ne _).symm]
    · simp [beq_eq_false_iff_ne.2 (otherBuffer_ne b)]
  rw [marked]

theorem abandonedBy_refusalsCounted (q : Port) (x : Exc) (l : List Nat) (code' : VerdictCode) :
    q.abandonedBy (x.refusalsCounted l code') test code = q.abandonedBy x test code := by
  simp only [Port.abandonedBy, verdict_refusalsCounted]

/-- Some ports' strips abandoned, one port after another. -/
theorem abandon_ports (ps : List (Fin 4)) (nodup : ps.Nodup) (s : State) :
    ps.foldl (fun s p => (s.port p).oldestFirst.foldl (fun s b =>
      if ((s.port p).buffers[b].abandonable?).any test then s.abandon p b code else s) s) s = { s with
      ports := Vector.ofFn fun p => if p ∈ ps then s.ports[p].abandonedBy s.exc test code else s.ports[p]
      exc := s.exc.refusalsCounted (ps.flatMap fun p => (s.ports[p].reached test).map fun u => u.exposure) code
      cat := s.cat.unmarked fun m =>
        decide (m.port ∈ ps) && (s.ports[m.port].buffers[m.buffer].abandonable?).any test } := by
  induction ps generalizing s with
  | nil =>
    have ports : (Vector.ofFn fun p : Fin 4 => s.ports[p]) = s.ports := vector_ext fun p => by simp
    simp only [List.foldl_nil, List.not_mem_nil, if_false, List.flatMap_nil, refusalsCounted_nil, decide_false,
      Bool.false_and]
    rw [unmarked_of_none fun _ => rfl, ports]
  | cons p ps ih =>
    obtain ⟨unlisted, nodup⟩ := List.nodup_cons.1 nodup
    rw [List.foldl_cons, abandon_port, ih nodup]
    have later {q : Fin 4} (h : q ∈ ps) (a : Port) : (s.ports.set p a)[q] = s.ports[q] :=
      set_entry_other _ _ fun same => unlisted (same ▸ h)
    have reached (a : Port) : (ps.flatMap fun q => ((s.ports.set p a)[q].reached test).map fun u => u.exposure) =
        ps.flatMap fun q => (s.ports[q].reached test).map fun u => u.exposure :=
      List.flatMap_congr fun q hq => by rw [later hq]
    simp only [refusalsCounted_append, unmarked_unmarked, abandonedBy_refusalsCounted, reached]
    have ports (a : Port) (ha : a = s.ports[p].abandonedBy s.exc test code) :
        (Vector.ofFn fun q => if q ∈ ps then (s.ports.set p a)[q].abandonedBy s.exc test code else (s.ports.set p a)[q]) =
        Vector.ofFn fun q => if q ∈ p :: ps then s.ports[q].abandonedBy s.exc test code else s.ports[q] := by
      refine congrArg Vector.ofFn (funext fun q => ?_)
      by_cases head : q = p
      · subst head
        rw [if_neg unlisted, if_pos (.head _), set_entry_self, ha]
      · rw [set_entry_other _ _ head]
        simp only [List.mem_cons, head, false_or]
    have marked (a : Port) (m : Marker) : (m.port == p && (s.ports[p].buffers[m.buffer].abandonable?).any test ||
        decide (m.port ∈ ps) && ((s.ports.set p a)[m.port].buffers[m.buffer].abandonable?).any test) =
        (decide (m.port ∈ p :: ps) && (s.ports[m.port].buffers[m.buffer].abandonable?).any test) := by
      obtain ⟨port, buffer⟩ := m
      by_cases head : port = p
      · subst head
        simp [unlisted]
      · simp only [set_entry_other _ _ head]
        simp [head]
    simp only [ports _ rfl, marked, List.flatMap_cons]

theorem abandonWhere_eq (s : State) (test : Strip → Bool) (code : VerdictCode) :
    s.abandonWhere test code = s.abandonedBy test code := by
  have all (p : Fin 4) : p ∈ ([0, 1, 2, 3] : List (Fin 4)) := by
    revert p
    decide
  have ports : (Vector.ofFn fun p : Fin 4 => s.ports[p].abandonedBy s.exc test code) =
      s.ports.map fun q => q.abandonedBy s.exc test code := vector_ext fun p => by simp
  rw [State.abandonWhere, abandon_ports _ (by decide)]
  simp only [all, if_true, decide_true, Bool.true_and, ports, State.abandonedBy, ports_toList]
  rfl

end Abandon

/-! ### A port that goes DOWN (R72) -/

theorem foldl_free (q : Port) (bs : List (Fin 2)) : bs.foldl Port.free q = { q with
    buffers := Vector.ofFn fun b => if b ∈ bs then .idle else q.buffers[b]
    older := if bs = [] then q.older else none } := by
  induction bs generalizing q with
  | nil =>
    have buffers : (Vector.ofFn fun b : Fin 2 => q.buffers[b]) = q.buffers := vector_ext fun b => by simp
    simp only [List.foldl_nil, List.not_mem_nil, if_false, if_true, buffers]
  | cons b bs ih =>
    rw [List.foldl_cons, ih]
    refine port_ext rfl rfl rfl (congrArg Vector.ofFn (funext fun i => ?_)) (by simp [Port.free]) rfl rfl rfl rfl rfl
    by_cases here : i = b
    · subst here
      simp only [List.mem_cons, true_or, if_true]
      split
      · rfl
      · exact set_entry_self ..
    · rw [show (q.free b).buffers[i] = q.buffers[i] from set_entry_other _ _ here]
      simp only [List.mem_cons, here, false_or]

theorem foldl_freeBuffer (s : State) (p : Fin 4) (bs : List (Fin 2)) :
    bs.foldl (fun s b => s.freeBuffer p b) s = { s with
      ports := s.ports.set p (bs.foldl Port.free s.ports[p])
      cat := s.cat.unmarked fun m => m.port == p && decide (m.buffer ∈ bs) } := by
  induction bs generalizing s with
  | nil =>
    rw [unmarked_of_none fun m => by simp, List.foldl_nil, List.foldl_nil, set_entry_same]
  | cons b bs ih =>
    rw [List.foldl_cons, ih, List.foldl_cons]
    simp only [State.freeBuffer, State.changePort, set_entry_self, Vector.set_set, clearMarker_eq, unmarked_unmarked]
    congr 2
    funext m
    rw [marker_beq, ← Bool.and_or_distrib_left]
    simp [Bool.decide_or, beq_eq_decide]

theorem mem_abandonedAtDown {q : Port} {b : Fin 2} : b ∈ q.abandonedAtDown ↔ q.buffers[b].abandonable?.isSome = true := by
  simp only [Port.abandonedAtDown, List.mem_filter]
  exact and_iff_right (by revert b; decide)

theorem wentDown_eq (q : Port) : q.wentDown = { q.abandonedAtDown.foldl Port.free q with
    up := false, receive := .awaiting, verdicts := []
    abandonedDown := addUpTo Config.countMax q.abandonedDown q.abandonedAtDown.length } := by
  have gone : (q.buffers.toList.filter fun b => b.abandonable?.isSome) = q.abandonedAtDown.map fun b => q.buffers[b] := by
    rw [buffers_toList, Port.abandonedAtDown, List.filter_cons, List.filter_cons, List.filter_cons, List.filter_cons]
    split <;> split <;> rfl
  rw [foldl_free]
  refine port_ext rfl rfl rfl (vector_ext fun b => ?_) ?_ rfl rfl rfl ?_ rfl
  · simp [Port.wentDown, mem_abandonedAtDown]
  · simp [Port.wentDown, gone]
  · simp [Port.wentDown, gone, addUpTo, Config.countMax]

theorem goDown_eq (s : State) (p : Fin 4) : s.goDown p = { s with
    ports := s.ports.set p s.ports[p].wentDown
    cat := s.cat.unmarked fun m => m.port == p && (s.ports[p].buffers[m.buffer].abandonable?).isSome
    att := { s.att with flags := s.att.flags ||| 0b1000000#9 } } := by
  have count : (s.ports[p].abandonedAtDown.foldl Port.free s.ports[p]).abandonedDown = s.ports[p].abandonedDown := by
    rw [foldl_free]
  rw [wentDown_eq, State.goDown]
  simp only [State.port, foldl_freeBuffer, State.changePort, set_entry_self, Vector.set_set, mem_abandonedAtDown, count,
    Bool.decide_eq_true]
  rfl

/-! ### The natural end of gathering (R57) -/

theorem naturalEnd_eq (s : State) (c : Ctx) : s.naturalEnd c = s.naturallyEnded c := by
  have gathers : (s.ctx c).gathers = true ↔ (s.ctx c).state = .gathering ∧ (s.ctx c).endCause = none := by
    simp [Context.gathers]
  have all : s.allFinished c = true ↔ ∀ r ∈ (s.ctx c).progress, r.withdrawn = true ∨ s.finished c r = true := by
    simp [State.allFinished]
  unfold State.naturalEnd State.naturallyEnded
  simp only [gathers, all, and_assoc]
  split
  · rw [State.beginEnd, abandonWhere_eq]
    rfl
  · rfl

/-- What the end of gathering with a cause leaves. -/
theorem beginEnd_eq (s : State) (c : Ctx) (cause : EndCause) : s.beginEnd c cause =
    State.abandonedBy { s with exc := s.exc.setCtx c { s.ctx c with endCause := some cause, timer := none } }
      (fun u => u.ctx == c) .late := abandonWhere_eq _ _ _

end Sys2Proof.Proofs

/-! ## Proofs: READ SUMMARY, READ CELL and READ WATCH (chapters 3, 6 and 8) -/

namespace Sys2Proof.Proofs

open Sys2Proof Sys2Proof.Machine Sys2Proof.Laws

/-! ### READ SUMMARY (R63, R65) -/

theorem ctxOf_ctxCode (c : Ctx) : ctxOf (ctxCode c) = some c := by cases c <;> rfl

theorem ctxOf_of_high {n : Nat} (h : 1 < n) : ctxOf n = none := by
  unfold ctxOf
  split
  case h_3 => rfl
  all_goals omega

theorem endCauseBytes_eq (cause : Option EndCause) : endCauseBytes cause = bytesOf 1 (match cause with
    | none => 255
    | some .natural => 1
    | some .limit => 2
    | some .ended => 3) := by
  cases cause with
  | none => rfl
  | some k => cases k <;> rfl

theorem endBegunBytes_eq (x : Context) : ∃ endBegun, x.endBegunBytes = [endBegun] ∧
    (x.state = .exposing ∨ x.state = .gathering → endBegun = if x.endCause = none then 0 else 1) := by
  have flag : flagByte x.endCause.isSome = [if x.endCause = none then 0 else 1] := by
    cases x.endCause <;> simp [flagByte, bytesOf]
  unfold Context.endBegunBytes
  cases state : x.state
  case exposing | gathering => exact ⟨_, flag, fun _ => rfl⟩
  all_goals exact ⟨0xFF, rfl, fun h => by simp at h⟩

theorem summaryBytes_eq {s : State} {c : Ctx} {b : Byte} (begun : (s.ctx c).endBegunBytes = [b]) :
    let x := s.ctx c
    let m := x.summary
    s.summaryBytes c = bytesOf 2 x.number ++ bytesOf 4 x.epoch
      ++ bytesOf 1 (match x.endCause with
          | none => 255
          | some .natural => 1
          | some .limit => 2
          | some .ended => 3)
      ++ bytesOf 4 x.progress.length ++ bytesOf 4 m.finished
      ++ bytesOf 2 (s.lists c).missing.length ++ (s.lists c).missing.flatMap (bytesOf 2)
      ++ bytesOf 2 (s.lists c).withdrawn.length ++ (s.lists c).withdrawn.flatMap (bytesOf 2)
      ++ bytesOf 4 m.accepted ++ m.refusals.toList.flatMap (bytesOf 4)
      ++ bytesOf 4 m.pixels ++ bytesOf 4 m.defect ++ bytesOf 4 m.saturated ++ bytesOf 4 m.offGrid
      ++ bytesOf 4 m.crowded ++ bytesOf 4 m.cellsComplete ++ bytesOf 4 m.cellsPartial ++ bytesOf 4 m.cellsForced
      ++ bytesOf 4 m.damaged ++ bytesOf 4 m.watchHits ++ bytesOf 1 x.state.code ++ [b] := by
  intro x m
  unfold State.summaryBytes
  simp only [begun, endCauseBytes_eq, show countBytes = bytesOf 4 from rfl, listBytes, List.append_assoc]
  rfl

/-- Settles O34: the context's fields in the order of R63, its lists as they were fixed or as its progress table has
them. -/
theorem readSummaryCapturesTheCounts : Obligations.ReadSummaryCapturesTheCounts := by
  intro s f hr hlen
  have fits : f.fits 1 = true := (fits_iff f 1).2 hlen
  have answers {a : Answer} (ho : State.readSummary f (ownerView s f) = (ownerView s f, a)) :
      exec (.readSummary f) s = .next (s.answered f a.status a.payload) :=
    congrArg Host.Outcome.next (request_only_answers hr fits ho)
  refine ⟨fun high => answers (a := .invalid 38) (by rw [State.readSummary, ctxOf_of_high high]), ?_⟩
  intro c named x m
  have owner : State.readSummary f (ownerView s f) = if x.state = .free then (ownerView s f, .refuse .state)
      else (ownerView s f).capture (s.summaryBytes c) := by
    rw [State.readSummary, named, ctxOf_ctxCode]
    rfl
  refine And.intro ?_ (And.intro ?_ (And.intro ?_ (And.intro ?_ ?_)))
  · exact fun free => answers (a := .refuse .state) (owner.trans (if_pos free))
  · intro taken
    obtain ⟨endBegun, begun, value⟩ := endBegunBytes_eq x
    refine ⟨endBegun, congrArg Host.Outcome.next (request_captures hr fits ((owner.trans (if_neg taken)).trans ?_)), value⟩
    exact congrArg (ownerView s f).capture (summaryBytes_eq begun)
  · intro unfixed g
    have lists : s.lists c = { missing := (x.progress.filter fun p => !p.withdrawn && !s.finished c p).map fun p => p.seg
                               withdrawn := (x.progress.filter fun p => p.withdrawn).map fun p => p.seg } := by
      rw [State.lists, show (s.ctx c).summary.fixed = none from unfixed]
    rw [lists]
    simp only [List.mem_map, List.mem_filter, Bool.and_eq_true, Bool.not_eq_true']
    exact ⟨⟨fun ⟨r, ⟨hr, w⟩, seg⟩ => ⟨r, hr, seg, w⟩, fun ⟨r, hr, seg, w⟩ => ⟨r, ⟨hr, w⟩, seg⟩⟩,
      ⟨fun ⟨r, ⟨hr, w, u⟩, seg⟩ => ⟨r, hr, seg, w, u⟩, fun ⟨r, hr, seg, w, u⟩ => ⟨r, ⟨hr, w, u⟩, seg⟩⟩⟩
  · intro l fixed
    rw [State.lists, show (s.ctx c).summary.fixed = some l from fixed]
  · exact lists_ascending

/-! ### READ CELL (R134) -/

theorem slotStateCode_eq (st : SlotState) : st.code = match st with
    | .opened => 1
    | .queued => 2
    | .emitting => 3 := by cases st <;> rfl

theorem completenessBytes_eq (k : Option Completeness) :
    optionBytes 1 (k.map fun k => completenessCode (some k)) = match k with
      | none => [(0xFF : Byte)]
      | some .complete => [1]
      | some .partly => [2]
      | some .forced => [3] := by
  cases k with
  | none => rfl
  | some k => cases k <;> rfl

theorem suspectBytes_eq (b : Option Bool) : optionBytes 1 (b.map flagNat) = match b with
    | none => [(0xFF : Byte)]
    | some b => flagByte b := by cases b <;> rfl

theorem contributorBytes_eq (q : Contributor) : q.readBytes =
    bytesOf 2 q.seg ++ bytesOf 2 q.first ++ bytesOf 2 q.last ++ bytesOf 1 q.state.code
      ++ (match q.suspect with
        | none => [(0xFF : Byte)]
        | some b => flagByte b)
      ++ bytesOf 4 q.pixels := by
  rw [Contributor.readBytes, suspectBytes_eq]
  rfl

theorem slotBytes_eq (t : Ctb) (n : Nat) (e : Slot) : t.slotBytes n e =
    bytesOf 2 n ++ bytesOf 1 (match e.state with
        | .opened => 1
        | .queued => 2
        | .emitting => 3)
      ++ bytesOf 1 (ctxCode e.ctx) ++ bytesOf 2 e.cell.cx ++ bytesOf 2 e.cell.cy ++ bytesOf 2 e.part
      ++ (match e.completeness with
        | none => [(0xFF : Byte)]
        | some .complete => [1]
        | some .partly => [2]
        | some .forced => [3])
      ++ flagByte e.crowdedFlag ++ flagByte e.damagedFlag ++ bytesOf 1 e.watchSet.toNat ++ flagByte e.pinned
      ++ bytesOf 4 e.pixels ++ bytesOf 4 e.defect ++ bytesOf 4 e.saturated ++ bytesOf 4 e.crowded
      ++ bytesOf 4 e.damaged ++ bytesOf 2 e.contributors.length ++ (e.contributors.flatMap Contributor.readBytes)
      ++ (match e.state with
        | .opened => bytesOf 2 (t.touch.idxOf n + 1)
        | .queued => bytesOf 2 (t.queue.idxOf (.slot n) + 1)
        | .emitting => []) := by
  rw [Ctb.slotBytes, slotStateCode_eq, completenessBytes_eq]
  simp only [listBytes, countBytes, ← List.append_assoc]
  cases e.state <;> rfl

section ReadCell

variable {s : State} {f : Frame}

theorem fitsReadCell_of {n : Nat} (code : f.nat 0 1 = 1 ∧ n = 6 ∨ f.nat 0 1 = 2 ∧ n = 3) (length : f.payload.length = n) :
    f.fitsReadCell = true := by
  unfold Frame.fitsReadCell
  rcases code with ⟨h, rfl⟩ | ⟨h, rfl⟩
  · rw [if_neg (by omega), if_pos h, length]
    rfl
  · rw [if_neg (by omega), if_neg (by omega), if_pos h, length]
    rfl

theorem readCell_of_other (h1 : f.nat 0 1 ≠ 1) (h2 : f.nat 0 1 ≠ 2) : State.readCell f s = (s, .invalid 41) := by
  unfold State.readCell
  split
  · exact absurd ‹_› h1
  · exact absurd ‹_› h2
  · rfl

theorem readCell_of_cell (code : f.nat 0 1 = 1) : State.readCell f s = s.readCellByIndex f := by
  rw [State.readCell, code]
  rfl

theorem readCell_of_slot (code : f.nat 0 1 = 2) : State.readCell f s =
    if 2048 ≤ f.nat 1 2 then (s, .invalid 40) else s.capture (s.ctb.readSlotBytes (f.nat 1 2)) := by
  rw [State.readCell, code]
  rfl

theorem readCellByIndex_of_code {c : Ctx} (named : f.nat 1 1 = ctxCode c) : s.readCellByIndex f =
    if 1023 < f.nat 2 2 ∨ 1023 < f.nat 4 2 then (s, .invalid 39)
    else s.capture (s.ctb.readCellBytes c { cx := f.nat 2 2, cy := f.nat 4 2 }) := by
  rw [State.readCellByIndex, named, ctxOf_ctxCode]

theorem readSlotBytes_of_some {t : Ctb} {n : Nat} {e : Slot} (listed : t.slots.read n = some e) :
    t.readSlotBytes n = t.slotBytes n e := by
  rw [Ctb.readSlotBytes, listed]

theorem readCellBytes_of_index {t : Ctb} {c : Ctx} {cell : CellIndex} {n : Nat} (indexed : t.index c cell = some n) :
    t.readCellBytes c cell = t.readSlotBytes n := by
  rw [Ctb.readCellBytes, indexed]

theorem readCellBytes_of_none {t : Ctb} {c : Ctx} {cell : CellIndex} (none_ : t.index c cell = none) :
    t.readCellBytes c cell = [0xFF, 0xFF] ++ bytesOf 2 (t.lastPart c cell) := by
  rw [Ctb.readCellBytes, none_]
  rfl

/-- A context code above 1 names none; the others name one each. -/
theorem ctxCode_of_low {n : Nat} (h : n ≤ 1) : ∃ c, n = ctxCode c := by
  interval_cases n
  · exact ⟨.A, rfl⟩
  · exact ⟨.B, rfl⟩

end ReadCell

/-! ### READ WATCH (R154) -/

section ReadWatch

variable {s : State} {f : Frame}

theorem readWatch_of_all (h : f.nat 0 1 = 255) : State.readWatch f s =
    s.capture (([0, 1, 2, 3, 4, 5, 6, 7] : List (Fin 8)).flatMap s.watchBytes) := if_pos h

theorem readWatch_of_number {w : Fin 8} (h : f.nat 0 1 = w.val) : State.readWatch f s = s.capture (s.watchBytes w) := by
  have named : watchNumberOf (f.nat 0 1) = some w := by rw [h]; exact dif_pos w.isLt
  rw [State.readWatch, if_neg (by omega), named]

theorem readWatch_of_high (h : 7 < f.nat 0 1) (other : f.nat 0 1 ≠ 255) : State.readWatch f s = (s, .invalid 42) := by
  have unnamed : watchNumberOf (f.nat 0 1) = none := dif_neg (by omega)
  rw [State.readWatch, if_neg other, unnamed]

theorem watchBytes_eq (s : State) (w : Fin 8) :
    let r := s.watches[w]
    s.watchBytes w = bytesOf 1 w.val ++ bytesOf 1 (if r.setting = none then 0 else if r.first = none then 1 else 2)
      ++ (match r.setting with
        | none => [0] ++ List.replicate 9 0xFF ++ [0, 0, 0, 0]
        | some g => [1] ++ bytesOf 1 g.kind.code ++ bytesOf 2 g.x0 ++ bytesOf 2 g.x1 ++ bytesOf 2 g.y0
            ++ bytesOf 2 g.y1 ++ bytesOfInt 4 g.threshold)
      ++ flagByte r.first.isSome ++ bytesOf 2 r.count
      ++ (match r.first with
        | none => List.replicate 8 0xFF
        | some h => bytesOf 2 h.exposure ++ bytesOf 2 h.cell.cx ++ bytesOf 2 h.cell.cy
            ++ (match h.seg with
              | none => [0xFF, 0xFF]
              | some g => bytesOf 2 g)) := by
  intro r
  have condition : r.condition = if r.setting = none then 0 else if r.first = none then 1 else 2 := by
    simp only [Watch.condition, Option.isNone_iff_eq_none]
  have setting : r.settingBytes = match r.setting with
      | none => [0] ++ List.replicate 9 0xFF ++ [0, 0, 0, 0]
      | some g => [1] ++ bytesOf 1 g.kind.code ++ bytesOf 2 g.x0 ++ bytesOf 2 g.x1 ++ bytesOf 2 g.y0
          ++ bytesOf 2 g.y1 ++ bytesOfInt 4 g.threshold := by
    unfold Watch.settingBytes
    cases r.setting with
    | none => decide
    | some g => rfl
  have hit : r.hitBytes = flagByte r.first.isSome ++ bytesOf 2 r.count
      ++ (match r.first with
        | none => List.replicate 8 0xFF
        | some h => bytesOf 2 h.exposure ++ bytesOf 2 h.cell.cx ++ bytesOf 2 h.cell.cy
            ++ (match h.seg with
              | none => [0xFF, 0xFF]
              | some g => bytesOf 2 g)) := by
    unfold Watch.hitBytes
    cases r.first with
    | none => rfl
    | some h =>
      obtain ⟨exposure, cell, seg⟩ := h
      cases seg <;> rfl
  rw [State.watchBytes, condition, setting, hit]
  simp only [List.append_assoc]

end ReadWatch

/-- Settles O49: the slot named by its number or by its cell, and the watch by its number. -/
theorem readCellAndReadWatchGiveTheRecords : Obligations.ReadCellAndReadWatchGiveTheRecords := by
  refine ⟨fun s f hr => ?_, fun s f hr hlen => ?_⟩
  · intro run slotItems
    have items (n : Nat) (e : Slot) : s.ctb.slotBytes n e = slotItems n e := by
      refine (slotBytes_eq s.ctb n e).trans ?_
      rw [funext contributorBytes_eq] <;> rfl
    have answers {a : Answer} (fits : f.fitsReadCell = true) (ho : State.readCell f (ownerView s f) = (ownerView s f, a)) :
        run = .next (s.answered f a.status a.payload) :=
      congrArg Host.Outcome.next (request_only_answers hr fits ho)
    have captures {bytes : List Byte} (fits : f.fitsReadCell = true)
        (ho : State.readCell f (ownerView s f) = (ownerView s f).capture bytes) : run = .next (s.captured f bytes) :=
      congrArg Host.Outcome.next (request_captures hr fits ho)
    refine ⟨fun h1 not1 not2 => answers (a := .invalid 41) ?_ (readCell_of_other not1 not2), fun code length => ?_,
      fun code length => ?_⟩
    · unfold Frame.fitsReadCell
      rw [if_neg (by omega), if_neg not1, if_neg not2]
    · have fits := fitsReadCell_of (.inl ⟨code, rfl⟩) length
      refine ⟨fun high => answers (a := .invalid 38) fits ?_, fun low high => answers (a := .invalid 39) fits ?_,
        fun c named low low' => ⟨fun none_ => captures fits ?_, fun n e indexed listed => captures fits ?_⟩⟩
      · rw [readCell_of_cell code, State.readCellByIndex, ctxOf_of_high high]
      · obtain ⟨c, named⟩ := ctxCode_of_low low
        rw [readCell_of_cell code, readCellByIndex_of_code named, if_pos high]
      · rw [readCell_of_cell code, readCellByIndex_of_code named, if_neg (by omega)]
        exact congrArg (ownerView s f).capture (readCellBytes_of_none none_)
      · rw [readCell_of_cell code, readCellByIndex_of_code named, if_neg (by omega)]
        exact congrArg (ownerView s f).capture
          ((readCellBytes_of_index indexed).trans ((readSlotBytes_of_some listed).trans (items n e)))
    · have fits := fitsReadCell_of (.inr ⟨code, rfl⟩) length
      have owner := readCell_of_slot (s := ownerView s f) code
      refine ⟨fun high => answers (a := .invalid 40) fits (owner.trans (if_pos high)),
        fun low free => captures fits ((owner.trans (if_neg (by omega))).trans ?_),
        fun e low listed => captures fits ((owner.trans (if_neg (by omega))).trans ?_)⟩
      · refine congrArg (ownerView s f).capture ?_
        rw [Ctb.readSlotBytes, show (ownerView s f).ctb.slots.read (f.nat 1 2) = none from free]
        rfl
      · exact congrArg (ownerView s f).capture ((readSlotBytes_of_some listed).trans (items _ e))
  · intro bytes
    have fits : f.fits 1 = true := (fits_iff f 1).2 hlen
    have items (w : Fin 8) : s.watchBytes w = bytes w := watchBytes_eq s w
    have captures {bytes : List Byte} (ho : State.readWatch f (ownerView s f) = (ownerView s f).capture bytes) :
        exec (.readWatch f) s = .next (s.captured f bytes) := congrArg Host.Outcome.next (request_captures hr fits ho)
    refine ⟨fun w named => captures ((readWatch_of_number named).trans ?_), fun all => captures ((readWatch_of_all all).trans ?_),
      fun high other => congrArg Host.Outcome.next (request_only_answers (a := .invalid 42) hr fits (readWatch_of_high high other))⟩
    · exact congrArg (ownerView s f).capture (items w)
    · refine congrArg (ownerView s f).capture ?_
      change ([0, 1, 2, 3, 4, 5, 6, 7] : List (Fin 8)).flatMap s.watchBytes = _
      simp only [List.flatMap_cons, List.flatMap_nil, items, List.append_nil, List.append_assoc]

end Sys2Proof.Proofs

/-! ## Proofs: the end of gathering, the exposure requests and the shutter (chapter 3) -/

namespace Sys2Proof.Proofs

open Sys2Proof Sys2Proof.Machine Sys2Proof.Laws

/-! ### Effects beside the reply (R163) -/

theorem takeHead_withCmd (s : State) (m : Cmd) : State.takeHead { s with cmd := m } = { s.takeHead with cmd := m } := by
  simp only [State.takeHead]
  split
  · cases s.ctb.queue with
    | nil => rfl
    | cons i rest => cases i <;> rfl
  · rfl

theorem takeHead_cmd (s : State) : s.takeHead.cmd = s.cmd := by
  have same : s.takeHead = { s.takeHead with cmd := s.cmd } := takeHead_withCmd s s.cmd
  exact (congrArg State.cmd same :)

theorem takeHead_place (s : State) (tag : Byte) (a : Answer) : s.takeHead.place tag a = (s.place tag a).takeHead := by
  simp only [State.place, takeHead_cmd, takeHead_withCmd]

theorem naturallyEnded_place (s : State) (c : Ctx) (tag : Byte) (a : Answer) :
    (s.naturallyEnded c).place tag a = (s.place tag a).naturallyEnded c := by
  unfold State.naturallyEnded
  simp only
  split
  · rw [if_pos (by assumption)]
    rfl
  · rw [if_neg (by assumption)]

theorem setCtx_setCtx (x : Exc) (c : Ctx) (k k' : Context) : (x.setCtx c k).setCtx c k' = x.setCtx c k' := by
  cases c <;> rfl

theorem queueTrailer_eq (s : State) (c : Ctx) : s.queueTrailer c = { s with
    exc := s.exc.setCtx c { s.ctx c with state := .closing, timer := none }
    ctb := { s.ctb with queue := s.ctb.queue ++ [.trailer c] } } := rfl

/-! ### The end of gathering (R56, R58, R59, R62) -/

/-- Settles O37: a running timer of a gathering context is what expires. -/
theorem gatherTimerExpiryEndsGathering : Obligations.GatherTimerExpiryEndsGathering := by
  intro s c x
  have exec_eq : exec (.gatherTimerExpiry c) s =
      if (s.ctx c).timer.isSome ∧ (s.ctx c).gathers then .next (s.beginEnd c .limit) else .next s := rfl
  refine ⟨fun stopped => ?_, fun running gathering unended => ?_⟩
  · rw [exec_eq, if_neg fun h => by simp [show (s.ctx c).timer = none from stopped] at h]
  · have gathers : (s.ctx c).gathers = true := by
      rw [Context.gathers, show (s.ctx c).state = .gathering from gathering,
        show (s.ctx c).endCause = none from unended]
      rfl
    rw [exec_eq, if_pos ⟨Option.isSome_iff_ne_none.2 running, gathers⟩, beginEnd_eq]

section EndExposure

variable {s : State} {f : Frame} {c : Ctx}

theorem endExposure_of_code (named : f.nat 0 1 = ctxCode c) : State.endExposure f s =
    if s.running .flush then (s, .refuse .busy) else s.endExposureOf c := by
  rw [State.endExposure, named, ctxOf_ctxCode]

theorem releaseExposure_of_code (named : f.nat 0 1 = ctxCode c) : State.releaseExposure f s =
    if s.running .flush then (s, .refuse .busy)
    else if (s.ctx c).state = .held then (s.changeCtx c fun _ => Context.free, .ok) else (s, .refuse .state) := by
  rw [State.releaseExposure, named, ctxOf_ctxCode]

theorem endExposureOf_of_exposing (h : (s.ctx c).state = .exposing) : s.endExposureOf c = (State.takeHead { s with
    exc := s.exc.setCtx c { s.ctx c with state := .closing, endCause := some .ended, timer := none }
    ctb := { s.ctb with queue := s.ctb.queue ++ [.trailer c] } }, .ok) := by
  rw [State.endExposureOf, h]
  simp only [queueTrailer_eq, changeCtx_exc, changeCtx_ctb, setCtx_setCtx, State.ctx, ctx_setCtx_self]
  rfl

theorem endExposureOf_of_gathering (h : (s.ctx c).state = .gathering) :
    s.endExposureOf c = (if (s.ctx c).endCause = none then s.beginEnd c .ended else s, .ok) := by
  rw [State.endExposureOf, h]
  simp only [Option.isNone_iff_eq_none]

theorem endExposureOf_of_other (h : (s.ctx c).state = .free ∨ (s.ctx c).state = .closing ∨ (s.ctx c).state = .held) :
    s.endExposureOf c = (s, .refuse .state) := by
  unfold State.endExposureOf
  split <;> simp_all

end EndExposure

/-- Settles O33: the context code, a FLUSH, then the state of the context. -/
theorem endAndReleaseFollowTheContextState : Obligations.EndAndReleaseFollowTheContextState := by
  intro s f hr hlen
  have fits : f.fits 1 = true := (fits_iff f 1).2 hlen
  have ended {t : State} {a : Answer} (ho : State.endExposure f (ownerView s f) = (t, a)) :
      exec (.endExposure f) s = .next (t.place f.tag a) := congrArg Host.Outcome.next (request_places hr fits ho)
  have released {t : State} {a : Answer} (ho : State.releaseExposure f (ownerView s f) = (t, a)) :
      exec (.releaseExposure f) s = .next (t.place f.tag a) := congrArg Host.Outcome.next (request_places hr fits ho)
  refine ⟨fun high => ⟨ended (t := ownerView s f) (a := .invalid 38) ?_,
    released (t := ownerView s f) (a := .invalid 38) ?_⟩, ?_⟩
  · rw [State.endExposure, ctxOf_of_high high]
  · rw [State.releaseExposure, ctxOf_of_high high]
  intro c named x ok
  have ending := endExposure_of_code (s := ownerView s f) named
  have releasing := releaseExposure_of_code (s := ownerView s f) named
  refine ⟨fun flush => ⟨ended (a := .refuse .busy) (ending.trans (if_pos flush)),
    released (a := .refuse .busy) (releasing.trans (if_pos flush))⟩, fun idle => ?_⟩
  have unflushed : ¬(ownerView s f).running .flush = true := by
    rw [show (ownerView s f).running .flush = false from idle]
    decide
  rw [if_neg unflushed] at ending releasing
  refine ⟨fun exposing => ?_, fun gathering unended => ?_, fun gathering begun => ?_, fun other => ?_,
    fun held => ?_, fun other => ?_⟩
  · refine (ended (ending.trans (endExposureOf_of_exposing (s := ownerView s f) exposing))).trans ?_
    rw [takeHead_place]
    rfl
  · refine (ended (ending.trans (endExposureOf_of_gathering (s := ownerView s f) gathering))).trans ?_
    exact congrArg (fun t => Host.Outcome.next (State.place t f.tag .ok)) ((if_pos unended).trans (beginEnd_eq ..))
  · refine (ended (ending.trans (endExposureOf_of_gathering (s := ownerView s f) gathering))).trans ?_
    exact congrArg (fun t => Host.Outcome.next (State.place t f.tag .ok)) (if_neg begun)
  · exact ended (a := .refuse .state) (ending.trans (endExposureOf_of_other (s := ownerView s f) other))
  · exact released (a := .ok) (releasing.trans (if_pos held))
  · exact released (a := .refuse .state) (releasing.trans (if_neg other))

/-! ### The retire batch waits or begins (R41 to R43) -/

theorem beginDueBatch_iff {s : State} (due : s.cat.batch = .due) :
    (s.installing = false ∧ s.running .flush = false) ↔
      (s.exc.opening = none ∧ s.running .commit = false ∧ s.running .flush = false) := by
  have idle : s.applying = false := by rw [State.applying, due]
  simp only [State.installing, idle, Bool.not_false, Bool.and_true, Bool.or_eq_false_iff, Option.isSome_eq_false_iff,
    Option.isNone_iff_eq_none, and_assoc]

theorem beginDueBatch_of_free {s : State} (due : s.cat.batch = .due)
    (free : s.exc.opening = none ∧ s.running .commit = false ∧ s.running .flush = false) :
    s.beginDueBatch = { s with cat := { s.cat with batch := .applying false } } :=
  if_pos ⟨due, (beginDueBatch_iff due).2 free⟩

theorem beginDueBatch_of_blocked {s : State}
    (h : s.cat.batch ≠ .due ∨ ¬(s.exc.opening = none ∧ s.running .commit = false ∧ s.running .flush = false)) :
    s.beginDueBatch = s :=
  if_neg fun ⟨due, idle⟩ => h.elim (fun h => h due) fun h => h ((beginDueBatch_iff due).1 idle)

/-- Settles O28: what stands against a batch application, and the strips its first step abandons. -/
theorem batchApplicationBeginsAtExpiry : Obligations.BatchApplicationBeginsAtExpiry := by
  intro s free
  refine ⟨fun ms window => ?_, fun due idle => beginDueBatch_of_free due idle, fun h => beginDueBatch_of_blocked h,
    fun began => ?_⟩
  · have expiry : exec .batchWindowExpiry s = .next (State.beginDueBatch { s with cat := { s.cat with batch := .due } }) := by
      change execBatchWindowExpiry s = _
      rw [execBatchWindowExpiry, window]
    refine ⟨fun idle => ?_, fun busy => ?_⟩
    · exact expiry.trans (congrArg Host.Outcome.next
        (beginDueBatch_of_free (s := { s with cat := { s.cat with batch := .due } }) rfl idle))
    · exact expiry.trans (congrArg Host.Outcome.next
        (beginDueBatch_of_blocked (s := { s with cat := { s.cat with batch := .due } }) (.inr busy)))
  · change execBatchApplicationBegin s = _
    rw [execBatchApplicationBegin, if_pos began, abandonWhere_eq]

/-! ### Closing (R50, R51, R55) -/

theorem exposing_of {x : Exc} {c : Ctx} (h : (x.ctx c).state = .exposing) (other : (x.ctx (otherCtx c)).state ≠ .exposing) :
    x.exposing = some c := by
  cases c with
  | A => exact if_pos h
  | B => exact (if_neg other).trans (if_pos h)

theorem exposing_of_none {x : Exc} (a : x.ctxA.state ≠ .exposing) (b : x.ctxB.state ≠ .exposing) : x.exposing = none :=
  (if_neg a).trans (if_neg b)

theorem edgesAct_of {s : State} (ready : s.part = .ready) (use : s.params.shutterUse = true) : s.edgesAct = true := by
  simp [State.edgesAct, ready, use]

theorem closeContext_eq (s : State) (c : Ctx) : s.closeContext c = State.naturallyEnded { s with
    exc := s.exc.setCtx c { s.ctx c with
      state := .gathering, timer := if s.exc.flushing = true then none else some s.params.gatherLimit } } c :=
  naturalEnd_eq _ _

theorem takeClosing_of_some {s : State} {c : Ctx} (h : s.exc.exposing = some c) : s.takeClosing = s.closeContext c := by
  rw [State.takeClosing, h]

theorem takeClosing_of_none {s : State} (h : s.exc.exposing = none) : s.takeClosing = s.raise .shutterFault := by
  rw [State.takeClosing, h]

/-- A closing edge by the latch and the opening in progress (R51). -/
theorem exec_closingEdge {s : State} (act : s.edgesAct = true) : exec .closingEdge s =
    if s.exc.latch.closing = true then .next (s.raise .shutterFault)
    else if s.exc.latch.opening = true ∨ s.exc.opening.isSome = true then .next { s with exc.latch.closing := true }
    else .next s.takeClosing := if_neg (by rw [act]; decide)

/-- Settles O32: the edge and the request, each against the latch, the opening performed, and the EXPOSING context. -/
theorem closingStartsGathering : Obligations.ClosingStartsGathering := by
  intro s f hr hp l fault
  have fits : f.fits 0 = true := (fits_iff f 0).2 (by rw [hp, List.length_nil])
  have closed {t : State} {a : Answer} (ho : State.closeShutter (ownerView s f) = (t, a)) :
      exec (.closeShutter f) s = .next (t.place f.tag a) := congrArg Host.Outcome.next (request_places hr fits ho)
  have edge (use : s.params.shutterUse = true) := exec_closingEdge (edgesAct_of hr use)
  have owner : State.closeShutter (ownerView s f) =
      if l.opening = true ∨ s.exc.opening.isSome = true ∨ s.running .flush = true then (ownerView s f, .refuse .busy)
      else match s.exc.exposing with
        | some c => ((ownerView s f).closeContext c,
            { status := .ok, payload := bytesOf 1 (ctxCode c) ++ bytesOf 2 (s.ctx c).number })
        | none => (ownerView s f, .refuse .state) := rfl
  refine ⟨fun use latched => ?_, fun use unlatched ahead => ?_, fun busy => ?_, fun idle unopened => ?_⟩
  · rw [edge use, if_pos latched]
    rfl
  · rw [edge use, if_neg (by rw [unlatched]; decide), if_pos (ahead.imp_right Option.isSome_iff_ne_none.2)]
  · refine closed (a := .refuse .busy) (owner.trans (if_pos ?_))
    exact busy.imp_right (Or.imp_left Option.isSome_iff_ne_none.2)
  · have unblocked : ¬(s.exc.latch.opening = true ∨ s.exc.opening.isSome = true) := by
      rw [idle, show s.exc.latch.opening = false from unopened]
      decide
    have taken (use : s.params.shutterUse = true) (unlatched : l.closing = false) :
        exec .closingEdge s = .next s.takeClosing := by
      rw [edge use, if_neg (by rw [unlatched]; decide), if_neg unblocked]
    have accepted (unflushed : s.running .flush = false) := owner.trans (if_neg fun h => h.elim
      (fun h => unblocked (.inl h)) fun h => h.elim (fun h => unblocked (.inr h)) fun h => by simp [unflushed] at h)
    refine ⟨fun a b => ⟨fun use unlatched => ?_, fun unflushed => ?_⟩, fun c exposing other => ?_⟩
    · rw [taken use unlatched, takeClosing_of_none (exposing_of_none a b)]
      rfl
    · have answered := accepted unflushed
      rw [exposing_of_none a b] at answered
      exact closed (a := .refuse .state) answered
    · intro x closes
      have found := exposing_of (x := s.exc) exposing other
      refine ⟨fun use unlatched => ?_, fun unflushed => ?_⟩
      · rw [taken use unlatched, takeClosing_of_some found, closeContext_eq]
      · have answered := accepted unflushed
        rw [found] at answered
        rw [closed answered, closeContext_eq, naturallyEnded_place]
        rfl

end Sys2Proof.Proofs

/-! ## Proofs: openings and the shutter latch (chapter 3) -/

namespace Sys2Proof.Proofs

open Sys2Proof Sys2Proof.Machine Sys2Proof.Laws

/-! ### What stands against an opening (R52) -/

section Bars

variable {s : State}

/-- The part with the shutter latch as given. -/
def withLatch (s : State) (opening closing : Bool) : State :=
  { s with exc := { s.exc with latch := { opening := opening, closing := closing } } }

theorem withLatch_self {opening closing : Bool} (h : s.exc.latch = { opening := opening, closing := closing }) :
    withLatch s opening closing = s := by
  rw [withLatch, ← h]

theorem openingLatched (opening : Bool) :
    ({ s with exc.latch.opening := opening } : State) = withLatch s opening s.exc.latch.closing := rfl

theorem openingBar_of_exposing (h : s.exc.ctxA.state = .exposing ∨ s.exc.ctxB.state = .exposing) :
    s.openingBar = some .exposing := by
  refine if_pos ?_
  unfold Exc.exposing
  split_ifs <;> simp_all

theorem exposing_isSome (h : ¬(s.exc.ctxA.state = .exposing ∨ s.exc.ctxB.state = .exposing)) :
    ¬s.exc.exposing.isSome = true := by
  rw [exposing_of_none (fun a => h (.inl a)) fun b => h (.inr b)]
  decide

theorem openingBar_of_full (h : ¬(s.exc.ctxA.state = .exposing ∨ s.exc.ctxB.state = .exposing))
    (full : s.exc.ctxA.state ≠ .free ∧ s.exc.ctxB.state ≠ .free) : s.openingBar = some .noFree :=
  (if_neg (exposing_isSome h)).trans (if_pos full)

theorem openingBar_of_limit (h : ¬(s.exc.ctxA.state = .exposing ∨ s.exc.ctxB.state = .exposing))
    (room : ¬(s.exc.ctxA.state ≠ .free ∧ s.exc.ctxB.state ≠ .free)) (limit : 4294967295 ≤ s.cat.epoch) :
    s.openingBar = some .epochLimit :=
  (if_neg (exposing_isSome h)).trans ((if_neg room).trans (if_pos limit))

theorem openingBar_of_clear (h : ¬(s.exc.ctxA.state = .exposing ∨ s.exc.ctxB.state = .exposing))
    (room : ¬(s.exc.ctxA.state ≠ .free ∧ s.exc.ctxB.state ≠ .free)) (below : s.cat.epoch < 4294967295) :
    s.openingBar = none :=
  (if_neg (exposing_isSome h)).trans ((if_neg room).trans (if_neg (Nat.not_le.2 below)))

/-- What an opening edge that is taken does (R52). -/
theorem takeOpening_eq (s : State) : s.takeOpening = s.openingBar.elim s.beginOpening fun
    | .exposing => s.raise .shutterFault
    | .noFree | .epochLimit => s.raise .overrun := by
  unfold State.takeOpening
  cases s.openingBar with
  | none => rfl
  | some bar => cases bar <;> rfl

/-- OPEN EXPOSURE with nothing in progress and no edge latched (R52). -/
theorem openExposure_of_free (idle : s.openingBlocked = false)
    (latch : s.exc.latch = { opening := false, closing := false }) :
    s.openExposure = s.openingBar.elim
      (s.beginOpening,
        { status := .ok
          payload := bytesOf 1 (ctxCode s.exc.chosen) ++ bytesOf 2 s.openingNumber ++ bytesOf 4 (s.cat.epoch + 1) })
      fun
        | .exposing => (s, .refuse .state)
        | .noFree => (s.raise .overrun, .refuse .overrun)
        | .epochLimit => (s.raise .overrun, .refuse .epochLimit) := by
  unfold State.openExposure
  rw [if_neg (by simp [idle, latch])]
  cases s.openingBar with
  | none => rfl
  | some bar => cases bar <;> rfl

theorem openExposure_of_busy
    (h : s.openingBlocked = true ∨ s.exc.latch.opening = true ∨ s.exc.latch.closing = true) :
    s.openExposure = (s, .refuse .busy) := if_pos h

/-- An opening edge by the latch and what is in progress (R51). -/
theorem exec_openingEdge (act : s.edgesAct = true) : exec .openingEdge s =
    if s.exc.latch.opening = true ∨ s.exc.latch.closing = true then .next (s.raise .overrun)
    else if s.openingBlocked = true then .next { s with exc.latch.opening := true }
    else .next s.takeOpening := if_neg (by rw [act]; decide)

end Bars

/-! ### Serving the latch (R51) -/

section Latch

variable {s : State}

theorem takeOpening_latch (opening closing : Bool) :
    (withLatch s opening closing).takeOpening = withLatch s.takeOpening opening closing := by
  rw [takeOpening_eq, takeOpening_eq, show (withLatch s opening closing).openingBar = s.openingBar from rfl]
  cases s.openingBar with
  | none => rfl
  | some bar => cases bar <;> rfl

theorem takeOpening_part (s : State) : s.takeOpening.part = s.part := by
  rw [takeOpening_eq]
  cases s.openingBar with
  | none => rfl
  | some bar => cases bar <;> rfl

theorem takeOpening_shutterUse (s : State) : s.takeOpening.params.shutterUse = s.params.shutterUse := by
  rw [takeOpening_eq]
  cases s.openingBar with
  | none => rfl
  | some bar => cases bar <;> rfl

theorem serveClosing_of_unlatched (h : s.exc.latch.closing = false) : s.serveClosing = s :=
  if_neg fun closes => by simp [h] at closes

theorem serveLatch_of_unlatched (opening : s.exc.latch.opening = false) (closing : s.exc.latch.closing = false) :
    s.serveLatch = s := by
  unfold State.serveLatch
  split
  · rfl
  · rw [if_neg (by rw [opening]; decide), serveClosing_of_unlatched closing]

theorem opening_of_unblocked (idle : s.openingBlocked = false) : s.exc.opening = none := by
  simp only [State.openingBlocked, Bool.or_eq_false_iff] at idle
  simpa using idle.1.1.1

theorem serveClosing_of_latched (opening : s.exc.latch.opening = false) (closing : s.exc.latch.closing = true)
    (idle : s.exc.opening = none) : s.serveClosing = (withLatch s false false).takeClosing := by
  refine (if_pos ⟨closing, opening, idle⟩).trans ?_
  rw [withLatch, ← opening]

end Latch

/-- Settles O30: what stands against an opening, for the edge and for the request; the latch when it is served. -/
theorem openingTakesAFreeContextAndTheNextNumber : Obligations.OpeningTakesAFreeContextAndTheNextNumber := by
  refine ⟨fun s ignored => ?_, fun s f hr hp latch => ?_, fun s f hr hp latched => ?_, fun s => ?_⟩
  · have still : s.edgesAct = false := by
      rcases ignored with h | h <;> simp [State.edgesAct, h]
    exact ⟨if_pos still, if_pos still⟩
  · intro c other n exposing full begun raised
    have fits : f.fits 0 = true := (fits_iff f 0).2 (by rw [hp, List.length_nil])
    have opened {t : State} {a : Answer} (ho : State.openExposure (ownerView s f) = (t, a)) :
        exec (.openExposure f) s = .next (t.place f.tag a) := congrArg Host.Outcome.next (request_places hr fits ho)
    have unlatched : ¬(s.exc.latch.opening = true ∨ s.exc.latch.closing = true) := by simp [latch]
    have edge (use : s.params.shutterUse = true) :=
      (exec_openingEdge (edgesAct_of hr use)).trans (if_neg unlatched)
    refine ⟨fun blocked => ⟨fun use => ?_, opened (a := .refuse .busy) (openExposure_of_busy (.inl blocked))⟩,
      fun idle => ?_⟩
    · rw [edge use, if_pos blocked, openingLatched, latch]
      rfl
    · have taken (use : s.params.shutterUse = true) : exec .openingEdge s = .next s.takeOpening :=
        (edge use).trans (if_neg (by rw [idle]; decide))
      have owner := openExposure_of_free (s := ownerView s f) idle latch
      refine ⟨fun e => ⟨fun use => ?_, ?_⟩, fun e bar => ⟨fun use => ?_, ?_⟩, fun e room limit => ⟨fun use => ?_, ?_⟩,
        fun e room below => ⟨fun use => ?_, ?_⟩⟩
      · rw [taken use, takeOpening_eq, openingBar_of_exposing e]
        rfl
      · rw [openingBar_of_exposing (s := ownerView s f) e] at owner
        exact opened owner
      · rw [taken use, takeOpening_eq, openingBar_of_full e bar]
        rfl
      · rw [openingBar_of_full (s := ownerView s f) e bar] at owner
        exact opened owner
      · rw [taken use, takeOpening_eq, openingBar_of_limit e room limit]
        rfl
      · rw [openingBar_of_limit (s := ownerView s f) e room limit] at owner
        exact opened owner
      · rw [taken use, takeOpening_eq, openingBar_of_clear e room below]
        rfl
      · rw [openingBar_of_clear (s := ownerView s f) e room below] at owner
        exact opened owner
  · have fits : f.fits 0 = true := (fits_iff f 0).2 (by rw [hp, List.length_nil])
    refine ⟨fun use => ?_, congrArg Host.Outcome.next
      (request_only_answers (a := .refuse .busy) hr fits (openExposure_of_busy (.inr latched)))⟩
    rw [exec_openingEdge (edgesAct_of hr use), if_pos latched]
    rfl
  · intro latched l
    refine ⟨fun h => ?_, fun ready use idle => ?_⟩
    · rcases h with blocked | ⟨opening, closing⟩
      · exact if_pos blocked
      · exact serveLatch_of_unlatched opening closing
    have served : s.serveLatch = if s.exc.latch.opening = true then
        (State.takeOpening { s with exc.latch.opening := false }).serveClosing else s.serveClosing :=
      if_neg (by rw [idle]; decide)
    have edge : exec .openingEdge (latched s false false) = .next (latched s false false).takeOpening := by
      rw [exec_openingEdge (s := latched s false false) (edgesAct_of ready use), if_neg (by simp [latched]),
        if_neg (by rw [show (latched s false false).openingBlocked = false from idle]; decide)]
    refine ⟨fun opening closing => ?_, fun opening closing => ?_, fun opening closing =>
      ⟨_, edge, fun begun => ?_, fun none_ => ?_⟩⟩
    · rw [edge, served, if_pos opening, openingLatched, show s.exc.latch.closing = false from closing, takeOpening_latch]
      exact congrArg Host.Outcome.next ((takeOpening_latch ..).trans (serveClosing_of_unlatched rfl).symm)
    · rw [served, if_neg (by rw [opening]; decide), serveClosing_of_latched opening closing (opening_of_unblocked idle),
        exec_closingEdge (s := latched s false false) (edgesAct_of ready use), if_neg (by simp [latched]),
        if_neg (by simp [latched, opening_of_unblocked idle])]
      rfl
    · rw [served, if_pos opening, openingLatched, show s.exc.latch.closing = true from closing, takeOpening_latch]
      rw [show latched s false false = withLatch s false false from rfl, takeOpening_latch] at begun ⊢
      exact if_neg fun h => begun h.2.2
    · rw [served, if_pos opening, openingLatched, show s.exc.latch.closing = true from closing, takeOpening_latch]
      rw [show latched s false false = withLatch s false false from rfl, takeOpening_latch] at none_ ⊢
      have act : (withLatch s.takeOpening false false).edgesAct = true :=
        edgesAct_of ((takeOpening_part s).trans ready) ((takeOpening_shutterUse s).trans use)
      rw [serveClosing_of_latched (s := withLatch s.takeOpening false true) rfl rfl none_, exec_closingEdge act,
        if_neg (by simp [withLatch]), if_neg (by rw [none_]; simp [withLatch])]
      rfl

end Sys2Proof.Proofs

/-! ## Proofs: the strip ports (chapter 4) -/

namespace Sys2Proof.Proofs

open Sys2Proof Sys2Proof.Machine Sys2Proof.Laws

/-! ### Links and the back channel (R71, R72, R86) -/

section Links

variable {s : State} {p : Fin 4}

theorem exec_wordSyncFound (s : State) (p : Fin 4) :
    exec (.wordSyncFound p) s = .next ((s.changePort p fun q => { q with sync := true }).tryUp p) := rfl

theorem exec_wordSyncLost (s : State) (p : Fin 4) : exec (.wordSyncLost p) s =
    if s.ports[p].up = true then .next ((s.changePort p fun q => { q with sync := false }).goDown p)
    else .next (s.changePort p fun q => { q with sync := false }) := rfl

theorem tryUp_of_up (up : s.ports[p].up = true) : s.tryUp p = s :=
  if_neg fun h => by
    rw [State.port, up] at h
    simp at h

theorem tryUp_of_down (down : s.ports[p].up = false) (sync : s.ports[p].sync = true) : s.tryUp p =
    if s.params.linkEnable.getLsbD p.val = true then s.changePort p Port.comeUp else s := by
  simp only [State.tryUp, State.port, down, sync, true_and]

end Links

/-- Settles O39: the port by its link state, and the verdicts of an UP port. -/
theorem wordSyncAndVerdictsSent : Obligations.WordSyncAndVerdictsSent := by
  refine ⟨fun s p => ⟨fun down => ?_, fun up => ⟨?_, ?_⟩⟩, fun s p => ⟨fun v rest up queue => ?_, fun h => ?_⟩⟩
  · intro q
    refine ⟨?_, (exec_wordSyncLost s p).trans (if_neg (by rw [down]; decide))⟩
    have sync : (s.changePort p fun q => { q with sync := true }).ports[p] = { s.ports[p] with sync := true } :=
      set_entry_self ..
    rw [exec_wordSyncFound, tryUp_of_down (by rw [sync]; exact down) (by rw [sync])]
    by_cases enabled : s.params.linkEnable.getLsbD p.val = true
    · rw [changePort_params, if_pos enabled, show q = { s.ports[p] with sync := true, up := true, receive := .awaiting } from
        if_pos enabled]
      simp only [State.changePort, set_entry_self, Vector.set_set]
      rfl
    · rw [changePort_params, if_neg enabled, show q = { s.ports[p] with sync := true } from if_neg enabled]
      rfl
  · rw [exec_wordSyncFound, tryUp_of_up]
    · rfl
    · exact (congrArg Port.up (set_entry_self ..)).trans up
  · rw [exec_wordSyncLost, if_pos up, goDown_eq]
    simp only [State.changePort, set_entry_self, Vector.set_set]
    rfl
  · have sent : execVerdictSent p s = .next (s.changePort p fun q => { q with verdicts := rest, backChannel := v.words }) := by
      rw [execVerdictSent, State.port, up, queue]
    exact sent
  · change execVerdictSent p s = _
    unfold execVerdictSent
    split
    · rename_i up queue
      rcases h with down | none_
      · exact absurd (down.symm.trans up) (by decide)
      · exact absurd (none_.symm.trans queue) (by simp)
    · rfl

/-! ### The strip being received (R70, R82, R178) -/

section Receiving

variable {q : Port} {b : Fin 2} {u : Strip}

theorem receiving_eq_some (h : q.buffers[b] = .receiving u) (first : b = 1 → q.buffers[(0 : Fin 2)].isReceiving = false) :
    q.receiving? = some (b, u) := by
  match b with
  | 0 =>
    have h : q.buffers[0] = .receiving u := h
    simp only [Port.receiving?, h]
  | 1 =>
    have h : q.buffers[1] = .receiving u := h
    have first : q.buffers[0].isReceiving = false := first rfl
    unfold Port.receiving?
    rw [h]
    cases h0 : q.buffers[0] with
    | receiving t => rw [h0] at first; nomatch first
    | idle | ready | committing => rfl

theorem receiving_eq_none (h : ∀ b : Fin 2, q.buffers[b].isReceiving = false) : q.receiving? = none := by
  have h0 : q.buffers[0].isReceiving = false := h 0
  have h1 : q.buffers[1].isReceiving = false := h 1
  unfold Port.receiving?
  cases b0 : q.buffers[0] <;> cases b1 : q.buffers[1] <;> simp_all [Buffer.isReceiving]

variable {s : State} {p : Fin 4}

theorem breakReceiving_of_some (h : s.ports[p].receiving? = some (b, u)) :
    s.breakReceiving p = (s.brokenBy p b u .broken).receiveIn p .discarding := by
  rw [State.breakReceiving, State.port, h]
  simp only [breakStrip_eq]
  rfl

theorem breakReceiving_of_none (h : s.ports[p].receiving? = none) : s.breakReceiving p = s := by
  rw [State.breakReceiving, State.port, h]

end Receiving

/-! ### Rows (R82) -/

/-- Settles O42: a row that fits is appended, any other breaks the strip. -/
theorem rowsAreAppendedOrBreakTheStrip : Obligations.RowsAreAppendedOrBreakTheStrip := by
  intro s p words q
  have exec_eq : exec (.row p words) s = if q.up = true then .next (s.takeRow p words) else .next s := rfl
  refine ⟨fun h => ?_, fun b u up holds first => ?_⟩
  · rcases h with down | idle
    · exact exec_eq.trans (if_neg (by rw [down]; decide))
    · have none_ : s.takeRow p words = s := by
        rw [State.takeRow, State.port, receiving_eq_none (q := s.ports[p]) idle]
      rw [exec_eq, none_, ite_self]
  · have received : s.ports[p].receiving? = some (b, u) := receiving_eq_some holds first
    have taken : exec (.row p words) s = .next (s.takeRow p words) := exec_eq.trans (if_pos up)
    rw [taken, State.takeRow, State.port, received]
    refine ⟨fun pixels row length lacks => ?_, fun unfit => ?_⟩
    · have fits : u.rowFits pixels = true := by simp [Strip.rowFits, length, lacks]
      simp only [row, if_pos fits]
      rfl
    · cases row : rowPixels words with
      | none => exact congrArg Host.Outcome.next (breakReceiving_of_some received)
      | some pixels =>
        have misfit : ¬u.rowFits pixels = true := by
          rcases unfit pixels row with h | h <;> simp [Strip.rowFits, h]
        simp only [if_neg misfit]
        exact congrArg Host.Outcome.next (breakReceiving_of_some received)

/-! ### The arbiter (R92) -/

section Arbiter

theorem otherBuffer_otherBuffer (b : Fin 2) : otherBuffer (otherBuffer b) = b := by
  revert b
  decide

theorem chooseReady_of {q : Port} {b : Fin 2} {u : Strip} (ready : q.buffers[b] = .ready u)
    (oldest : q.buffers[otherBuffer b].ready? = none ∨ q.older = some b) : q.chooseReady = some (b, u) := by
  have here : q.buffers[b].ready? = some u := by rw [ready]; rfl
  obtain ⟨a, order⟩ := oldestFirst_eq q
  rcases eq_or_otherBuffer a b with rfl | rfl
  · simp only [Port.chooseReady, order, List.findSome?_cons, here, Option.map_some]
  · have none_ : q.buffers[a].ready? = none := by
      have back := otherBuffer_otherBuffer a
      simp only [back] at oldest
      refine oldest.resolve_right fun h => ?_
      rw [Port.oldestFirst, h] at order
      exact otherBuffer_ne a (List.cons.inj order).1
    simp only [Port.chooseReady, order, List.findSome?_cons, none_, here, Option.map_some, Option.map_none]

theorem chooseReady_eq_none {q : Port} (h : ∀ b : Fin 2, q.buffers[b].ready? = none) : q.chooseReady = none := by
  simp only [Port.chooseReady, h, Option.map_none, List.findSome?_eq_none_iff, implies_true]

theorem arbiterOrder_eq (last : Fin 4) : arbiterOrder last = (List.finRange 4).map fun i => last + 1 + i := by
  revert last
  decide

/-- The first of the ports in the arbiter's order that gives something. -/
theorem findSome_finRange {α : Type} {f : Fin 4 → Option α} {j : Fin 4} {a : α} (before : ∀ i < j, f i = none)
    (at_ : f j = some a) : (List.finRange 4).findSome? f = some a := by
  have order : List.finRange 4 = [0, 1, 2, 3] := by decide
  rw [order]
  match j with
  | 0 => simp [at_]
  | 1 => simp [at_, before 0 (by decide)]
  | 2 => simp [at_, before 0 (by decide), before 1 (by decide)]
  | 3 => simp [at_, before 0 (by decide), before 1 (by decide), before 2 (by decide)]

variable {s : State}

theorem arbiterChoice_eq (s : State) : s.arbiterChoice = (List.finRange 4).findSome? fun i =>
    (s.ports[s.ple.lastServed + 1 + i].chooseReady).map fun c => (s.ple.lastServed + 1 + i, c) := by
  rw [State.arbiterChoice, arbiterOrder_eq, List.findSome?_map]
  rfl

theorem arbitrate_of_busy (h : s.ple.commit ≠ none) : s.arbitrate = s := if_pos (Option.isSome_iff_ne_none.2 h)

theorem arbitrate_of_none (h : s.arbiterChoice = none) : s.arbitrate = s := by
  rw [State.arbitrate, h]
  exact ite_self _

theorem arbitrate_of_choice {p : Fin 4} {b : Fin 2} {u : Strip} (idle : s.ple.commit = none)
    (h : s.arbiterChoice = some (p, b, u)) : s.arbitrate = { s.withBuffer p b (.committing u) with
      ple := { lastServed := p, commit := some (u.commit p b) } } := by
  rw [State.arbitrate, h, if_neg (by rw [idle]; decide)]
  rfl

end Arbiter

/-! ### Strip ends (R83) -/

section StripEnd

variable {s : State} {p : Fin 4}

theorem exec_stripEnd_of_up {words : List Word} (up : s.ports[p].up = true) : exec (.stripEnd p words) s =
    match stripEndCrc words with
    | some crc => .next (s.takeEnd p crc)
    | none => .next (s.breakReceiving p) := if_neg (by rw [State.port, up]; decide)

theorem stripEndCrc_eq_none {words : List Word} (h : words.length ≠ 1) : stripEndCrc words = none := by
  unfold stripEndCrc
  split
  · exact absurd rfl h
  · rfl

theorem takeEnd_of_none {w : Word} (h : s.ports[p].receiving? = none) :
    s.takeEnd p w = (s.receiveIn p .awaiting).arbitrate := by
  rw [State.takeEnd, State.port, h]
  rfl

theorem takeEnd_of_some {w : Word} {b : Fin 2} {u : Strip} (h : s.ports[p].receiving? = some (b, u)) :
    s.takeEnd p w = ((s.endStrip p b u w).receiveIn p .awaiting).arbitrate := by
  rw [State.takeEnd, State.port, h]
  rfl

end StripEnd

/-- Settles O43: the message, the strip being received, its rows and its CRC; then the arbiter's choice. -/
theorem stripEndMakesTheStripReady : Obligations.StripEndMakesTheStripReady := by
  refine ⟨fun s p words => ?_, fun s p w b u => ?_, fun s => ⟨fun h => ?_, fun j b u idle => ?_⟩⟩
  · intro q idle run
    have down (h : q.up = false) : run = .next s := if_pos h
    have broken (up : q.up = true) (length : words.length ≠ 1) : run = .next (s.breakReceiving p) := by
      refine (exec_stripEnd_of_up up).trans ?_
      rw [stripEndCrc_eq_none length]
    refine ⟨down, fun up none_ length => ?_, fun none_ length => ?_, fun b u up holds first length => ?_⟩
    · obtain ⟨w, rfl⟩ := List.length_eq_one_iff.1 length
      exact (exec_stripEnd_of_up up).trans (congrArg Host.Outcome.next (takeEnd_of_none (receiving_eq_none none_)))
    · cases up : q.up with
      | false => exact down up
      | true => rw [broken up length, breakReceiving_of_none (receiving_eq_none none_)]
    · rw [broken up length, breakReceiving_of_some (receiving_eq_some holds first)]
  · intro q up holds first
    have ended : exec (.stripEnd p [w]) s = .next ((s.endStrip p b u w).receiveIn p .awaiting).arbitrate :=
      (exec_stripEnd_of_up up).trans (congrArg Host.Outcome.next (takeEnd_of_some (receiving_eq_some holds first)))
    refine ⟨fun whole crc => ?_, fun short => ?_, fun whole crc => ?_⟩
    · rw [ended, State.endStrip, if_neg (by omega), if_neg fun h => h crc]
      rfl
    · rw [ended, State.endStrip, if_pos short, breakStrip_eq]
    · rw [ended, State.endStrip, if_neg (by omega), if_pos (show w ≠ crc32Value u.crc from crc), breakStrip_eq]
  · rcases h with busy | none_
    · exact arbitrate_of_busy busy
    · refine arbitrate_of_none ?_
      rw [arbiterChoice_eq]
      simp only [chooseReady_eq_none (none_ _), Option.map_none, List.findSome?_eq_none_iff, implies_true]
  · intro port q before ready oldest
    refine arbitrate_of_choice idle ?_
    rw [arbiterChoice_eq]
    refine findSome_finRange (j := j) (fun i hi => ?_) ?_
    · rw [chooseReady_eq_none (before i hi)]
      rfl
    · rw [chooseReady_of ready oldest]
      rfl

end Sys2Proof.Proofs

/-! ## Proofs: strip headers (chapter 4) -/

namespace Sys2Proof.Proofs

open Sys2Proof Sys2Proof.Machine Sys2Proof.Laws

/-! ### The checks of a header (R77 to R79) -/

section Checks

variable {s : State} {p : Fin 4} {h : Header} {c : Ctx} {code : VerdictCode} {e : Entry} {i : Nat} {r : Progress} {v : Version}

theorem hold_of_idle {q : Port} {b : Fin 2} (idle : q.buffers[b] = .idle) : q.hold = false := by
  match b with
  | 0 =>
    have idle : q.buffers[0] = .idle := idle
    simp only [Port.hold, idle, Buffer.isComplete, Bool.false_and]
  | 1 =>
    have idle : q.buffers[1] = .idle := idle
    simp only [Port.hold, idle, Buffer.isComplete, Bool.and_false]

theorem hold_of_taken {q : Port} (idle : ∀ b : Fin 2, q.buffers[b].isReceiving = false) (a : q.buffers[(0 : Fin 2)] ≠ .idle)
    (b : q.buffers[(1 : Fin 2)] ≠ .idle) : q.hold = true := by
  have complete {u : Buffer} (unreceiving : u.isReceiving = false) (taken : u ≠ .idle) : u.isComplete = true := by
    cases u <;> simp_all [Buffer.isReceiving, Buffer.isComplete]
  have first : q.buffers[0].isComplete = true := complete (idle 0) a
  have second : q.buffers[1].isComplete = true := complete (idle 1) b
  rw [Port.hold, first, second]
  rfl

theorem checkHeader_of_flushing (flushing : s.exc.flushing = true) : s.checkHeader p h = .error .flushed := if_pos flushing

theorem checkHeader_of_hold (open_ : s.exc.flushing = false) (hold : s.ports[p].hold = true) :
    s.checkHeader p h = .error .held :=
  (if_neg (by rw [open_]; decide)).trans (if_pos hold)

theorem checkHeader_of_room (open_ : s.exc.flushing = false) (room : s.ports[p].hold = false) : s.checkHeader p h =
    match s.exc.checkExposure h.exposure with
    | .error code => .error code
    | .ok c => (s.checkSegment c h).map fun v => (c, v) :=
  (if_neg (by rw [open_]; decide)).trans (if_neg (by rw [State.port, room]; decide))

theorem checkExposure_of_none (x : Exc) {n : Nat} (none_ : x.carrying n = none) : x.checkExposure n = .error .unknownExposure := by
  rw [Exc.checkExposure, none_]

theorem checkExposure_of_exposing (x : Exc) {n : Nat} (carried : x.carrying n = some c) (state : (x.ctx c).state = .exposing) :
    x.checkExposure n = .error .notReady := by
  simp only [Exc.checkExposure, carried, state]

theorem checkExposure_of_late (x : Exc) {n : Nat} (carried : x.carrying n = some c) (state : (x.ctx c).state = .closing ∨
    (x.ctx c).state = .held ∨ ((x.ctx c).state = .gathering ∧ (x.ctx c).endCause ≠ none)) :
    x.checkExposure n = .error .late := by
  simp only [Exc.checkExposure, carried]
  rcases state with state | state | ⟨state, begun⟩
  · rw [state]
  · rw [state]
  · rw [state]
    exact if_neg fun none_ => begun (Option.isNone_iff_eq_none.1 none_)

theorem checkExposure_of_gathering (x : Exc) {n : Nat} (carried : x.carrying n = some c)
    (state : (x.ctx c).state = .gathering) (unended : (x.ctx c).endCause = none) : x.checkExposure n = .ok c := by
  simp only [Exc.checkExposure, carried, state, unended]
  rfl

theorem checkSegment_of_unknown (unknown : 1023 < h.seg ∨ s.cat.find h.seg = none) :
    s.checkSegment c h = .error .unknownSegment := by
  unfold State.checkSegment
  by_cases high : 1023 < h.seg
  · exact if_pos high
  · rw [if_neg high, unknown.resolve_left high]

theorem checkSegment_of_entry (low : h.seg ≤ 1023) (found : s.cat.find h.seg = some (i, e)) : s.checkSegment c h =
    if e.member = true ∨ e.state = .retiring then .error .retired else s.checkProgress c h e := by
  rw [State.checkSegment, if_neg (Nat.not_lt.2 low), found]

theorem checkProgress_of_record (record : (s.ctx c).record h.seg = some r) : s.checkProgress c h e =
    if r.withdrawn = true then .error .retired
    else if e.marker.isSome = true then .error .segmentBusy
    else match s.resolved c h.seg with
      | none => .error .gap
      | some v => checkRows h r.next v := by
  rw [State.checkProgress, record] <;> rfl

theorem checkProgress_of_version (record : (s.ctx c).record h.seg = some r) (present : r.withdrawn = false)
    (unmarked : e.marker = none) (resolved : s.resolved c h.seg = some v) : s.checkProgress c h e = checkRows h r.next v := by
  rw [checkProgress_of_record record, if_neg (by rw [present]; decide), if_neg (by rw [unmarked]; decide), resolved]

end Checks

/-! ### A header, once a strip being received was ended (R76, R80, R81) -/

section Headers

variable {s0 : State} {p : Fin 4} {w0 w1 : Word} {ended : Option (Fin 2 × Strip)}

/-- The fields of a header of two words. -/
def headerIn (w0 w1 : Word) : Header :=
  { exposure := highHalf w0, seg := lowHalf w0, first := highHalf w1, count := lowHalf w1 }

/-- The part with a header more counted at a port. -/
def headerSeen (s : State) (p : Fin 4) : State :=
  s.changePort p fun q => { q with headersSeen := countUp q.headersSeen }

theorem receiving_of {q : Port} (h : q.isReceiving ended) : q.receiving? = ended := by
  cases ended with
  | none => exact receiving_eq_none h
  | some e => exact receiving_eq_some h.1 h.2

theorem brokenBy_headerSeen (s : State) (p : Fin 4) (b : Fin 2) (u : Strip) (code : VerdictCode) :
    (headerSeen s p).brokenBy p b u code = headerSeen (s.brokenBy p b u code) p := by
  simp only [headerSeen, State.changePort, State.brokenBy, set_entry_self, Vector.set_set]
  rfl

/-- What the checks of a header make of it. -/
def headerChecked (s : State) (p : Fin 4) (h : Header) (words : List Word) (ended : Option (Fin 2 × Strip)) : State :=
  match s.checkHeader p h with
  | .error code => s.refuseHeader p h code
  | .ok (c, v) => s.acceptHeader p ((s.port p).bufferFor ended) (h.strip c v words)

theorem takeHeader_eq (h : Header) (words : List Word) (received : s0.ports[p].isReceiving ended) :
    s0.takeHeader p h words = headerChecked (headerSeen (s0.headerStart p ended) p) p h words ended := by
  have received : (s0.port p).receiving? = ended := receiving_of received
  rw [State.takeHeader, received]
  cases ended with
  | none => rfl
  | some e =>
    change headerChecked ((headerSeen s0 p).breakStrip p e.1 e.2 .broken) p h words (some e) = _
    rw [breakStrip_eq, brokenBy_headerSeen]
    rfl

theorem exec_stripHeader_of_up (up : s0.ports[p].up = true) :
    exec (.stripHeader p [w0, w1]) s0 = .next (s0.takeHeader p (headerIn w0 w1) [w0, w1]) :=
  if_neg (by rw [State.port, up]; decide)

theorem checkHeader_headerSeen (s : State) (p : Fin 4) (h : Header) :
    (headerSeen s p).checkHeader p h = s.checkHeader p h := by
  have hold : (headerSeen s p).ports[p].hold = s.ports[p].hold := by
    rw [headerSeen, changePort_ports, set_entry_self]
    rfl
  unfold State.checkHeader
  rw [State.port, hold]
  rfl

/-- A refused header. -/
theorem header_refused {code : VerdictCode} (up : s0.ports[p].up = true) (received : s0.ports[p].isReceiving ended)
    (upStill : (s0.headerStart p ended).ports[p].up = true)
    (check : (s0.headerStart p ended).checkHeader p (headerIn w0 w1) = .error code) :
    let s := s0.headerStart p ended
    let q := s.ports[p]
    exec (.stripHeader p [w0, w1]) s0 = .next { s with
      ports := s.ports.set p { q with
        headersSeen := min 4294967295 (q.headersSeen + 1), receive := .discarding
        verdicts := if q.verdicts.length < 8
          then q.verdicts ++ [{ seg := lowHalf w0, first := highHalf w1, code := code
                                next := s.exc.nextExpected (highHalf w0) (lowHalf w0) }]
          else q.verdicts
        refusedUnknown := if code = .unknownExposure then min 4294967295 (q.refusedUnknown + 1) else q.refusedUnknown }
      exc := s.exc.refusalsCounted [highHalf w0] code } := by
  intro s q
  rw [exec_stripHeader_of_up up, takeHeader_eq _ _ received, headerChecked, checkHeader_headerSeen, check]
  simp only [State.refuseHeader, giveVerdict_eq, headerSeen, State.changePort, set_entry_self, Vector.set_set, queue_eq]
  rw [show (s0.headerStart p ended).ports[p].up = true from upStill]
  simp only [true_and]
  rfl

theorem brokenBy_port (s : State) (p : Fin 4) (b : Fin 2) (u : Strip) (code : VerdictCode) :
    (s.brokenBy p b u code).ports[p] = { s.ports[p] with
      buffers := s.ports[p].buffers.set b .idle
      older := none
      verdicts := if s.ports[p].up = true ∧ s.ports[p].verdicts.length < 8
        then s.ports[p].verdicts ++ [u.verdict s.exc code] else s.ports[p].verdicts } := set_entry_self ..

theorem headerStart_up (s : State) (p : Fin 4) (ended : Option (Fin 2 × Strip)) :
    (s.headerStart p ended).ports[p].up = s.ports[p].up := by
  cases ended with
  | none => rfl
  | some e => exact (congrArg Port.up (brokenBy_port s p e.1 e.2 .broken) :)

/-- The buffer of a strip that was ended is IDLE. -/
theorem headerStart_idle (s : State) (p : Fin 4) (e : Fin 2 × Strip) :
    (s.headerStart p (some e)).ports[p].buffers[e.1] = .idle := by
  refine (congrArg (fun q : Port => q.buffers[e.1]) (brokenBy_port s p e.1 e.2 .broken)).trans ?_
  exact set_entry_self ..

/-- With no buffer IDLE, no strip was being received when the checks began. -/
theorem headerStart_unreceiving (received : s0.ports[p].isReceiving ended)
    (first : (s0.headerStart p ended).ports[p].buffers[(0 : Fin 2)] ≠ .idle)
    (second : (s0.headerStart p ended).ports[p].buffers[(1 : Fin 2)] ≠ .idle) (b : Fin 2) :
    (s0.headerStart p ended).ports[p].buffers[b].isReceiving = false := by
  cases ended with
  | none => exact received b
  | some e =>
    obtain ⟨ended, u⟩ := e
    have idle := headerStart_idle s0 p (ended, u)
    match ended with
    | 0 => exact absurd idle first
    | 1 => exact absurd idle second

theorem isIdle_iff (u : Buffer) : u.isIdle = true ↔ u = .idle := by cases u <;> simp [Buffer.isIdle]

/-- The buffer a header takes: that of the strip it ended, or without one the lower-numbered IDLE one (R80). -/
theorem bufferFor_eq {q : Port} {b : Fin 2} (some_ : ∀ u, ended = some u → b = u.1)
    (none_ : ended = none → q.buffers[b] = .idle ∧ (b = 1 → q.buffers[(0 : Fin 2)] ≠ .idle)) :
    q.bufferFor ended = b := by
  cases ended with
  | some e => exact (some_ e rfl).symm
  | none =>
    obtain ⟨idle, lower⟩ := none_ rfl
    match b with
    | 0 => exact if_pos ((isIdle_iff _).2 idle)
    | 1 => exact if_neg fun h => lower rfl ((isIdle_iff _).1 h)

/-- A header that passes its checks. -/
theorem header_accepted {b : Fin 2} {c : Ctx} {v : Version} (up : s0.ports[p].up = true)
    (received : s0.ports[p].isReceiving ended)
    (check : (s0.headerStart p ended).checkHeader p (headerIn w0 w1) = .ok (c, v))
    (buffer : (s0.headerStart p ended).ports[p].bufferFor ended = b) :
    let s := s0.headerStart p ended
    let q := s.ports[p]
    exec (.stripHeader p [w0, w1]) s0 = .next { s with
      ports := s.ports.set p { q with
        receive := .receiving
        headersSeen := min 4294967295 (q.headersSeen + 1)
        older := if q.buffers[otherBuffer b] = .idle then none else some (otherBuffer b)
        buffers := q.buffers.set b (.receiving { exposure := highHalf w0, seg := lowHalf w0, first := highHalf w1
                                                 count := lowHalf w1, ctx := c, cols := v.cols, rows := []
                                                 crc := crc32Words 0xFFFFFFFF#32 [w0, w1] }) }
      cat := s.cat.changeEntry (lowHalf w0) fun k => { k with marker := some { port := p, buffer := b } } } := by
  intro s q
  have seen : (headerSeen (s0.headerStart p ended) p).ports[p].bufferFor ended = b := by
    rw [headerSeen, changePort_ports, set_entry_self]
    exact buffer
  rw [exec_stripHeader_of_up up, takeHeader_eq _ _ received, headerChecked, checkHeader_headerSeen, check]
  change Host.Outcome.next (State.acceptHeader _ p ((headerSeen (s0.headerStart p ended) p).ports[p].bufferFor ended) _) = _
  rw [seen]
  simp only [State.acceptHeader, headerSeen, State.changePort, set_entry_self, Vector.set_set, Port.take,
    isIdle_iff]
  rfl

end Headers

/-- Settles O40: every check passes, and the buffer is the one the header takes. -/
theorem goodHeaderTakesTheLowerIdleBuffer : Obligations.GoodHeaderTakesTheLowerIdleBuffer := by
  intro s0 p w0 w1 ended c v r i e b up received s exposure seg first count q open_ some_ none_ carried gathering unended
    low found outside live record present unmarked resolved next one sixteen rows
  have idle : q.buffers[b] = .idle := by
    cases ended with
    | none => exact (none_ rfl).1
    | some u =>
      obtain rfl := some_ u rfl
      exact headerStart_idle s0 p u
  refine header_accepted up received ?_ (bufferFor_eq some_ none_)
  have fits : checkRows (headerIn w0 w1) r.next v = .ok v := by
    have next : r.next = (headerIn w0 w1).first := next
    rw [checkRows, if_neg (by omega), if_neg]
    change ¬(r.next < first ∨ count < 1 ∨ 16 < count ∨ v.rows < first + count)
    omega
  have segment : s.checkSegment c (headerIn w0 w1) = .ok v := by
    rw [checkSegment_of_entry low found, if_neg (by simp [outside, live]), checkProgress_of_version record present unmarked
      resolved, fits]
  rw [checkHeader_of_room open_ (hold_of_idle idle),
    checkExposure_of_gathering (n := (headerIn w0 w1).exposure) _ carried gathering unended]
  simp only [segment]
  rfl

/-- Settles O41: a malformed header breaks a strip; of the checks, the first that fails refuses the header. -/
theorem headerChecksFailInOrder : Obligations.HeaderChecksFailInOrder := by
  refine ⟨fun s p words length => ?_, fun s0 p w0 w1 => ⟨fun down => if_pos down, fun ended up received => ?_⟩⟩
  · intro q run
    have malformed : headerOf words = none := by
      unfold headerOf
      split
      · exact absurd rfl length
      · rfl
    have broken (up : q.up = true) : run = .next (s.breakReceiving p) := by
      refine (if_neg (by rw [State.port, show s.ports[p].up = true from up]; decide)).trans ?_
      rw [malformed]
    refine ⟨fun h => ?_, fun b u up holds first => ?_⟩
    · cases up : q.up with
      | false => exact if_pos up
      | true =>
        have idle := h.resolve_left (by rw [up]; decide)
        rw [broken up, breakReceiving_of_none (receiving_eq_none idle)]
    · rw [broken up, breakReceiving_of_some (receiving_eq_some holds first)]
  · intro s exposure seg q refused
    have refuses {code : VerdictCode} (check : s.checkHeader p (headerIn w0 w1) = .error code) : refused code :=
      header_refused up received ((headerStart_up s0 p ended).trans up) check
    refine ⟨fun flushing => refuses (checkHeader_of_flushing flushing), fun open_ =>
      ⟨fun a b => refuses ?_, fun ⟨b, idle⟩ => ?_⟩⟩
    · exact checkHeader_of_hold open_ (hold_of_taken (headerStart_unreceiving received a b) a b)
    have room := checkHeader_of_room (h := headerIn w0 w1) open_ (hold_of_idle idle)
    have exposed {code : VerdictCode} (check : s.exc.checkExposure exposure = .error code) : refused code :=
      refuses (by rw [room, show s.exc.checkExposure (headerIn w0 w1).exposure = .error code from check])
    refine ⟨fun none_ => exposed (checkExposure_of_none _ none_), fun c carried => ?_⟩
    intro x
    refine ⟨fun exposing => exposed (checkExposure_of_exposing _ carried exposing),
      fun late => exposed (checkExposure_of_late _ carried late), fun gathering unended => ?_⟩
    have checked {code : VerdictCode} (check : s.checkSegment c (headerIn w0 w1) = .error code) : refused code := by
      refine refuses ?_
      rw [room, checkExposure_of_gathering (n := (headerIn w0 w1).exposure) _ carried gathering unended]
      simp only [check]
      rfl
    refine ⟨fun unknown => checked (checkSegment_of_unknown unknown), fun i e low found => ?_⟩
    have entry := checkSegment_of_entry (h := headerIn w0 w1) (c := c) low found
    refine ⟨fun retired => checked (entry.trans (if_pos retired)), fun outside live => ?_⟩
    have progress {code : VerdictCode} (check : s.checkProgress c (headerIn w0 w1) e = .error code) : refused code :=
      checked (entry.trans ((if_neg (by simp [outside, live])).trans check))
    refine ⟨fun none_ => progress ?_, fun r record => ?_⟩
    · rw [State.checkProgress, show (s.ctx c).record (headerIn w0 w1).seg = none from none_]
    have recorded := checkProgress_of_record (e := e) (h := headerIn w0 w1) record
    refine ⟨fun withdrawn => progress (recorded.trans (if_pos withdrawn)),
      fun present marked => progress (recorded.trans ((if_neg (by rw [present]; decide)).trans
        (if_pos (Option.isSome_iff_ne_none.2 marked)))),
      fun v present unmarked resolved => ?_⟩
    have rows := checkProgress_of_version (e := e) (h := headerIn w0 w1) record present unmarked resolved
    refine ⟨fun before => progress (rows.trans (if_pos before)), fun gap => progress (rows.trans ?_)⟩
    have late : ¬(headerIn w0 w1).first < r.next := by
      change ¬highHalf w1 < r.next
      omega
    rw [checkRows, if_neg late, if_pos]
    change r.next < highHalf w1 ∨ lowHalf w1 < 1 ∨ 16 < lowHalf w1 ∨ v.rows < highHalf w1 + lowHalf w1
    omega

end Sys2Proof.Proofs

/-! ## Proofs: the words on the cell link (10.4) -/

namespace Sys2Proof.Proofs

open Sys2Proof Sys2Proof.Machine Sys2Proof.Laws

/-! ### Bits side by side -/

theorem toNat_append_eq {m n : Nat} (x : BitVec m) (y : BitVec n) : (x ++ y).toNat = x.toNat * 2 ^ n + y.toNat := by
  rw [BitVec.toNat_append, ← Nat.shiftLeft_add_eq_or_of_lt y.isLt, Nat.shiftLeft_eq]

theorem toNat_ofBool_eq (b : Bool) : (BitVec.ofBool b).toNat = flagNat b := by cases b <;> rfl

theorem flagNat_lt (b : Bool) : flagNat b < 2 := by cases b <;> decide

/-- Two halves in one word. -/
theorem wordOfHalves_eq (hi lo : Nat) : wordOfHalves hi lo = BitVec.ofNat 16 hi ++ BitVec.ofNat 16 lo := by
  refine BitVec.eq_of_toNat_eq ?_
  rw [wordOfHalves, toNat_append_eq, BitVec.toNat_ofNat, BitVec.toNat_ofNat, BitVec.toNat_ofNat]
  omega

/-! ### Segment ids two to a word -/

theorem pairWords_eq (ids : List Nat) : pairWords ids = idsSent ids := by
  induction ids using pairWords.induct with
  | case1 => rfl
  | case2 a => simp [pairWords, idsSent, wordOfHalves_eq]
  | case3 a b rest ih =>
    have count : ((a :: b :: rest).length + 1) / 2 = (rest.length + 1) / 2 + 1 := by
      simp only [List.length_cons]
      omega
    rw [pairWords, ih, idsSent, idsSent, count, List.range_succ_eq_map, List.map_cons, List.map_map, wordOfHalves_eq]
    rfl

/-! ### A trailer -/

/-- The bits of an end cause. -/
def causeBits : Option EndCause → BitVec 2
  | none => 0
  | some .natural => 1
  | some .limit => 2
  | some .ended => 3

theorem causeBits_toNat (cause : Option EndCause) : (causeBits cause).toNat = endCauseCode cause := by
  cases cause with
  | none => rfl
  | some k => cases k <;> rfl

theorem endCauseCode_lt (cause : Option EndCause) : endCauseCode cause < 4 := causeBits_toNat cause ▸ (causeBits cause).isLt

theorem trailerWord_eq (r : Trailer) :
    natWord (r.instanceNo % 16 * 268435456 + ctxCode r.ctx * 134217728 + endCauseCode r.endCause * 33554432
      + r.number % 65536) =
    BitVec.ofNat 4 r.instanceNo ++ (if r.ctx = .A then 0#1 else 1#1) ++ causeBits r.endCause ++ 0#9
      ++ BitVec.ofNat 16 r.number := by
  have ctx : (if r.ctx = .A then 0#1 else 1#1).toNat = ctxCode r.ctx := by cases r.ctx <;> rfl
  have low : ctxCode r.ctx < 2 := by cases r.ctx <;> decide
  have cause := endCauseCode_lt r.endCause
  refine BitVec.eq_of_toNat_eq ?_
  rw [natWord, toNat_append_eq, toNat_append_eq, toNat_append_eq, toNat_append_eq, ctx, causeBits_toNat]
  simp only [BitVec.toNat_ofNat]
  omega

theorem bodyWords_eq (r : Trailer) : r.bodyWords = r.sentWords := by
  unfold Trailer.bodyWords Trailer.sentWords
  rw [trailerWord_eq, pairWords_eq, pairWords_eq, wordOfHalves_eq]
  simp only [List.map_append, List.map_cons, List.map_nil, List.append_assoc, List.cons_append, List.nil_append]
  cases r.endCause with
  | none => rfl
  | some k => cases k <;> rfl

theorem trailer_words_eq (r : Trailer) : r.words = r.sentWords ++ [crcSent r.sentWords] := by
  rw [Trailer.words, bodyWords_eq]
  rfl

/-! ### A cell record -/

/-- The bits of a completeness. -/
def completenessBits : Option Completeness → BitVec 2
  | none => 0
  | some .complete => 1
  | some .partly => 2
  | some .forced => 3

theorem completenessBits_toNat (k : Option Completeness) : (completenessBits k).toNat = completenessCode k := by
  cases k with
  | none => rfl
  | some k => cases k <;> rfl

theorem completenessCode_lt (k : Option Completeness) : completenessCode k < 4 :=
  completenessBits_toNat k ▸ (completenessBits k).isLt

theorem headerWord_eq (h : CellHeader) :
    natWord (h.instanceNo % 16 * 268435456 + completenessCode h.completeness * 67108864
      + flagNat h.crowdedFlag * 33554432 + flagNat h.damagedFlag * 16777216 + flagNat h.suspectFlag * 8388608
      + h.exposure % 65536) =
    BitVec.ofNat 4 h.instanceNo ++ completenessBits h.completeness ++ BitVec.ofBool h.crowdedFlag
      ++ BitVec.ofBool h.damagedFlag ++ BitVec.ofBool h.suspectFlag ++ 0#7 ++ BitVec.ofNat 16 h.exposure := by
  have complete := completenessCode_lt h.completeness
  have crowded := flagNat_lt h.crowdedFlag
  have damaged := flagNat_lt h.damagedFlag
  have suspect := flagNat_lt h.suspectFlag
  refine BitVec.eq_of_toNat_eq ?_
  rw [natWord]
  simp only [toNat_append_eq, completenessBits_toNat, toNat_ofBool_eq, BitVec.toNat_ofNat]
  omega

theorem countsWord_eq (h : CellHeader) (few : h.contributors.length ≤ 8) :
    wordOfHalves h.part (h.watchSet.toNat * 256 + h.contributors.length) =
      BitVec.ofNat 16 h.part ++ h.watchSet ++ BitVec.ofNat 8 h.contributors.length := by
  have set := h.watchSet.isLt
  refine BitVec.eq_of_toNat_eq ?_
  rw [wordOfHalves_eq]
  simp only [toNat_append_eq, BitVec.toNat_ofNat]
  omega

/-- The bits of a contributor's state. -/
def stateBits : ContributorState → BitVec 8
  | .expected => 0
  | .done => 1
  | .withdrawn => 2

theorem contributorWord_eq (q : Contributor) :
    wordOfHalves q.seg (q.state.code * 256 + flagNat (q.suspect.getD false) * 128) =
      BitVec.ofNat 16 q.seg ++ stateBits q.state ++ BitVec.ofBool (q.suspect == some true) ++ 0#7 := by
  have state : (stateBits q.state).toNat = q.state.code := by cases q.state <;> rfl
  have low : q.state.code < 256 := state ▸ (stateBits q.state).isLt
  have suspect : (q.suspect == some true) = q.suspect.getD false := by
    cases q.suspect with
    | none => rfl
    | some b => cases b <;> rfl
  have flag := flagNat_lt (q.suspect.getD false)
  refine BitVec.eq_of_toNat_eq ?_
  rw [wordOfHalves_eq, suspect]
  simp only [toNat_append_eq, toNat_ofBool_eq, BitVec.toNat_ofNat, state]
  omega

theorem contributorWords_eq (q : Contributor) : q.words =
    [BitVec.ofNat 16 q.seg ++ stateBits q.state ++ BitVec.ofBool (q.suspect == some true) ++ 0#7,
     BitVec.ofNat 16 q.first ++ BitVec.ofNat 16 q.last, BitVec.ofNat 32 q.pixels] := by
  rw [Contributor.words, contributorWord_eq, wordOfHalves_eq q.first]
  rfl

theorem headerWords_eq (h : CellHeader) (few : h.contributors.length ≤ 8) : h.words = h.sentWords := by
  have contributors : (h.contributors.flatMap Contributor.words) = h.contributors.flatMap fun q =>
      [BitVec.ofNat 16 q.seg ++ stateBits q.state ++ BitVec.ofBool (q.suspect == some true) ++ 0#7,
       BitVec.ofNat 16 q.first ++ BitVec.ofNat 16 q.last, BitVec.ofNat 32 q.pixels] :=
    List.flatMap_congr fun q _ => contributorWords_eq q
  unfold CellHeader.words CellHeader.sentWords
  rw [headerWord_eq, countsWord_eq h few, wordOfHalves_eq h.cell.cx, contributors]
  have states (q : Contributor) : stateBits q.state = match q.state with
      | .expected => 0
      | .done => 1
      | .withdrawn => 2 := by cases q.state <;> rfl
  simp only [states]
  cases h.completeness with
  | none => rfl
  | some k => cases k <;> rfl

theorem sentWords_length (h : CellHeader) : h.sentWords.length = 9 + 3 * h.contributors.length := by
  unfold CellHeader.sentWords
  simp only [List.length_append, List.length_cons, List.length_nil, List.length_flatMap, List.map_const', List.sum_replicate,
    smul_eq_mul]
  omega

/-! ### A payload row -/

theorem rowWords_eq (rows : Table OutputPixel) (y : Nat) : rowWords rows y = rowSent rows y := by
  unfold rowWords rowSent
  refine List.flatMap_congr fun x _ => ?_
  cases rows.read (y * 64 + x) <;> rfl

/-- The units of a record (R142). -/
theorem unitWords_eq (h : CellHeader) (rows : Table OutputPixel) (few : h.contributors.length ≤ 8) :
    unitWords h rows 0 = h.sentWords ∧ (∀ y < 63, unitWords h rows (y + 1) = rowSent rows y) ∧
      unitWords h rows 64 = rowSent rows 63 ++ [crcSent (h.sentWords ++ (List.range 64).flatMap (rowSent rows))] := by
  refine ⟨(if_pos rfl).trans (headerWords_eq h few), fun y hy => ?_, ?_⟩
  · rw [unitWords, if_neg (by omega), if_neg (by omega), rowWords_eq]
    rfl
  · rw [unitWords, if_neg (by decide), if_pos rfl, rowWords_eq, recordCrc, headerWords_eq h few, funext (rowWords_eq rows)]
    rfl

end Sys2Proof.Proofs

/-! ## Proofs: releases and boundaries (chapters 1 and 3) -/

namespace Sys2Proof.Proofs

open Sys2Proof Sys2Proof.Machine Sys2Proof.Laws

/-! ### A release (R30, R37) -/

theorem disturb_eq (c : Cat) (segs : List Nat) : c.disturb segs = { c with sign := c.sign.afterAll segs } := by
  simp only [Cat.disturb, Signature.afterAll, List.any_eq_true, decide_eq_true_eq]
  split <;> rfl

theorem vacated_eq (e : Entry) (xs : List Context) :
    e.vacated xs = (e.state == .retiring && xs.all fun x => !x.holds e.seg) := by
  rw [Entry.vacated, List.not_any_eq_all_not]

theorem release_eq (c : Cat) (xs : List Context) : c.release xs = c.releasedFor xs := by
  rw [Cat.release, disturb_eq]
  simp only [vacated_eq]
  rfl

/-- An entry is RETIRING and no context holds it. -/
def goneFor (xs : List Context) (e : Entry) : Bool := e.state == .retiring && xs.all fun x => !x.holds e.seg

/-- What a release keeps of an entry's versions. -/
def keptFor (xs : List Context) (e : Entry) : List Installed :=
  e.installed.filter fun k => e.installed.getLast? == some k || xs.any fun x => x.resolve e == some k

theorem releasedFor_entries (c : Cat) (xs : List Context) : (c.releasedFor xs).entries =
    (c.entries.filter fun e => !goneFor xs e.2).map fun e => (e.1, { e.2 with installed := keptFor xs e.2 }) := rfl

theorem mem_releasedFor {c : Cat} {xs : List Context} {e : Nat × Entry} : e ∈ (c.releasedFor xs).entries ↔
    ∃ e' ∈ c.entries, goneFor xs e'.2 = false ∧ e = (e'.1, { e'.2 with installed := keptFor xs e'.2 }) := by
  rw [releasedFor_entries]
  simp only [List.mem_map, List.mem_filter, Bool.not_eq_true', and_assoc]
  exact exists_congr fun e' => and_congr_right fun _ => and_congr_right fun _ => eq_comm

theorem goneFor_of_state {xs : List Context} {e : Entry} (h : e.state ≠ .retiring) : goneFor xs e = false := by
  simp [goneFor, h]

/-- A filter that keeps the last keeps it last. -/
theorem getLast_filter {α : Type} {l : List α} {p : α → Bool} (keeps : ∀ a, l.getLast? = some a → p a = true) :
    (l.filter p).getLast? = l.getLast? := by
  cases l using List.reverseRecOn with
  | nil => rfl
  | append_singleton l a =>
    have kept : p a = true := keeps a List.getLast?_concat
    rw [List.filter_append, List.filter_cons_of_pos kept, List.filter_nil, List.getLast?_concat, List.getLast?_concat]

theorem keptFor_getLast (xs : List Context) (e : Entry) : (keptFor xs e).getLast? = e.installed.getLast? :=
  getLast_filter fun k last => by simp [last]

/-- What a release leaves RETIRING, some context holds. -/
theorem retiring_held {c : Cat} {xs : List Context} {e : Nat × Entry} (he : e ∈ (c.releasedFor xs).entries)
    (retiring : e.2.state = .retiring) : ∃ x ∈ xs, x.holds e.2.seg = true := by
  obtain ⟨e', -, stays, rfl⟩ := mem_releasedFor.1 he
  have retiring : e'.2.state = .retiring := retiring
  simpa [goneFor, retiring] using stays

/-! ### A trailer sent (R61, R145) -/

section TrailerSent

variable {s : State}

theorem exec_trailerSent {r : Trailer} {point : TrailerPoint} (h : s.cop.state = .sendingTrailer r point) :
    exec .trailerSent s = if point = .held then .next s
      else .next (State.reachDone { s with cop.sent := some (.trailerWords r.words), cop.state := .idle } r.ctx).takeHead := by
  change execTrailerSent s = _
  rw [execTrailerSent, h]

/-- A context that reaches DONE (R61). -/
theorem reachDone_eq (s : State) (c : Ctx) :
    let x : Context := if s.params.summaryHold = true then { s.ctx c with state := .held } else Context.free
    let exc := s.exc.setCtx c x
    s.reachDone c = { s with
      att := { s.att with flags := s.att.flags ||| 0b1#9 }
      exc := exc
      cat := s.cat.releasedFor [exc.ctxA, exc.ctxB]
      ctb := if c = .A then { s.ctb with partsA := [] } else { s.ctb with partsB := [] } } := by
  intro x exc
  rw [State.reachDone, State.release, release_eq]
  cases c <;> rfl

end TrailerSent

/-- Settles O51: the context reaches DONE, what is released, and the words of the trailer. -/
theorem trailerEndsTheExposure : Obligations.TrailerEndsTheExposure := by
  refine ⟨fun s => ⟨fun r point sending begun => ?_, fun r held => ?_, fun aborting => ?_⟩, trailer_words_eq⟩
  · intro x exc t
    refine ⟨?_, fun e he retiring => ?_, fun i e he live => ?_⟩
    · rw [exec_trailerSent sending, if_neg begun, reachDone_eq]
      rfl
    · obtain ⟨x, hx, holds⟩ := retiring_held he retiring
      rcases List.mem_cons.1 hx with rfl | hx
      · exact ⟨.A, holds⟩
      · obtain rfl := List.mem_singleton.1 hx
        exact ⟨.B, holds⟩
    · exact ⟨_, mem_releasedFor.2 ⟨_, he, goneFor_of_state live, rfl⟩, rfl, keptFor_getLast _ e⟩
  · rw [exec_trailerSent held, if_pos rfl]
  · change execAbortMarkerSent s = _
    rw [execAbortMarkerSent, aborting]

/-! ### A boundary (R27, R29, R30) -/

/-- What a boundary makes of one entry before it releases (R29, R30). -/
theorem atBoundary_eq (e : Entry) (epoch : Nat) : e.atBoundary epoch = match e.staged with
    | none => e
    | some (.version v) => { e with
        state := if e.state = .pending then .live else e.state
        installed := e.installed ++ [{ version := v, epoch := epoch }]
        staged := none, suspect := false, broken := 0 }
    | some .retirement => { e with state := if e.state = .live then .retiring else e.state, staged := none } := by
  unfold Entry.atBoundary
  cases e.staged with
  | none => rfl
  | some k => cases k <;> rfl

/-- The catalogue at a boundary, before the release. -/
def steppedCat (c : Cat) : Cat :=
  { c with
    epoch := c.epoch + 1
    entries := c.entries.map fun e => (e.1, e.2.atBoundary (c.epoch + 1))
    sign := c.sign.afterAll ((c.entries.filter fun e => e.2.staged.isSome).map fun e => e.2.seg) }

theorem boundaryFor_eq (c : Cat) (xs : List Context) : c.boundaryFor xs = (steppedCat c).releasedFor xs := by
  have entries : (c.entries.map fun e => (e.1, e.2.atBoundary (c.epoch + 1))) = c.entries.map fun e => (e.1, match e.2.staged with
      | none => e.2
      | some (.version v) => { e.2 with
          state := if e.2.state = .pending then .live else e.2.state
          installed := e.2.installed ++ [{ version := v, epoch := c.epoch + 1 }]
          staged := none, suspect := false, broken := 0 }
      | some .retirement => { e.2 with state := if e.2.state = .live then .retiring else e.2.state, staged := none }) :=
    List.map_congr_left fun e _ => congrArg (Prod.mk e.1) (atBoundary_eq e.2 _)
  rw [steppedCat, entries]
  rfl

theorem boundary_eq (c : Cat) (xs : List Context) : c.boundary xs = c.boundaryFor xs := by
  rw [boundaryFor_eq, Cat.boundary, disturb_eq, release_eq]
  rfl

theorem atBoundary_staged (e : Entry) (epoch : Nat) : (e.atBoundary epoch).staged = none := by
  rw [atBoundary_eq]
  cases h : e.staged with
  | none => exact h
  | some k => cases k <;> rfl

theorem mem_boundaryFor {c : Cat} {xs : List Context} {e : Nat × Entry} : e ∈ (c.boundaryFor xs).entries ↔
    ∃ e' ∈ c.entries, goneFor xs (e'.2.atBoundary (c.epoch + 1)) = false ∧
      e = (e'.1, { e'.2.atBoundary (c.epoch + 1) with installed := keptFor xs (e'.2.atBoundary (c.epoch + 1)) }) := by
  rw [boundaryFor_eq, mem_releasedFor]
  simp only [steppedCat, List.mem_map]
  constructor
  · rintro ⟨_, ⟨e', he, rfl⟩, stays, rfl⟩
    exact ⟨e', he, stays, rfl⟩
  · rintro ⟨e', he, stays, rfl⟩
    exact ⟨_, ⟨e', he, rfl⟩, stays, rfl⟩

theorem boundaryFor_staged {c : Cat} {xs : List Context} {e : Nat × Entry} (he : e ∈ (c.boundaryFor xs).entries) :
    e.2.staged = none := by
  obtain ⟨e', -, -, rfl⟩ := mem_boundaryFor.1 he
  exact atBoundary_staged ..

/-! ### An opening completes (R31, R52) -/

theorem liveSegments_perm (c : Cat) :
    c.liveSegments.Perm ((c.entries.filter fun e => e.2.state == .live).map fun e => e.2.seg) := by
  rw [liveSegments_eq]
  exact List.perm_insertionSort ..

theorem setCtx_withOpening (x : Exc) (c : Ctx) (k : Context) (o : Option Opening) :
    ({ x with opening := o } : Exc).setCtx c k = { x.setCtx c k with opening := o } := by cases c <;> rfl

/-- Settles O31: the boundary, and a context with the LIVE segments as its expected set. -/
theorem openingCompletesInAnExposingContext : Obligations.OpeningCompletesInAnExposingContext := by
  intro s o opening cat live
  refine ⟨fun e he => boundaryFor_staged he, cat.liveSegments, liveSegments_ascending cat, liveSegments_perm cat, ?_⟩
  intro x t
  have completes : exec .openingComplete s = .next t.beginDueBatch.serveLatch := by
    have step : execOpeningComplete s = .next (State.beginDueBatch { s with
        cat := s.cat.boundary s.exc.contexts
        exc := ({ s.exc with opening := none } : Exc).setCtx o.ctx (openedContext o.number
          (s.cat.boundary s.exc.contexts).epoch (s.cat.boundary s.exc.contexts).liveSegments) }).serveLatch := by
      rw [execOpeningComplete, opening]
      rfl
    rw [boundary_eq, setCtx_withOpening] at step
    exact step
  have latch : t.exc.latch = s.exc.latch := setCtx_latch ..
  refine ⟨completes, fun undue unlatched => ?_⟩
  rw [completes, beginDueBatch_of_blocked (s := t) (.inl undue), serveLatch_of_unlatched]
  · rw [latch, unlatched]
  · rw [latch, unlatched]

/-! ### A COMMIT's boundary (R33) -/

section NoContextOpen

variable {xs : List Context} {e : Entry} {epoch : Nat}

theorem goneFor_of_closed (closed : ∀ x ∈ xs, x.isOpen = false) : goneFor xs e = (e.state == .retiring) := by
  have unheld : (xs.all fun x => !x.holds e.seg) = true := List.all_eq_true.2 fun x hx => by
    simp [Context.holds, closed x hx]
  rw [goneFor, unheld, Bool.and_true]

theorem keptFor_of_closed (closed : ∀ x ∈ xs, x.isOpen = false) :
    keptFor xs e = e.installed.filter fun k => e.installed.getLast? == some k := by
  refine List.filter_congr fun k _ => ?_
  have unresolved : (xs.any fun x => x.resolve e == some k) = false := List.any_eq_false.2 fun x hx => by
    simp [Context.resolve, closed x hx]
  rw [unresolved, Bool.or_false]

/-- Of versions with rising tags, one is the newest. -/
theorem filter_last {l : List Installed} (rising : (l.map fun k => k.epoch).Pairwise (· < ·)) {k : Installed}
    (last : l.getLast? = some k) : (l.filter fun k' => l.getLast? == some k') = [k] := by
  obtain ⟨front, rfl⟩ := List.getLast?_eq_some_iff.1 last
  rw [last, List.filter_append]
  have older : (front.filter fun k' => some k == some k') = [] := List.filter_eq_nil_iff.2 fun k' hk' same => by
    obtain rfl : k = k' := by simpa using same
    rw [List.map_append, List.pairwise_append] at rising
    exact Nat.lt_irrefl _ (rising.2.2 _ (List.mem_map_of_mem hk') _ (.head _))
  rw [older]
  simp

/-- The entry after the boundary's steps 2 and 3, of an entry that the invariant holds of. -/
theorem atBoundary_consistent (h : e.consistent epoch) :
    (e.atBoundary (epoch + 1)).installed ≠ [] ∧ (e.atBoundary (epoch + 1)).state ≠ .pending ∧
      ((e.atBoundary (epoch + 1)).installed.map fun k => k.epoch).Pairwise (· < ·) ∧
      ((e.atBoundary (epoch + 1)).state = .retiring ↔ e.state = .retiring ∨ e.staged = some .retirement) := by
  obtain ⟨-, pending, installed, retiring, -, -, rising, below⟩ := h
  rw [atBoundary_eq]
  cases staged : e.staged with
  | none =>
    have unpending : e.state ≠ .pending := fun state => by
      obtain ⟨-, v, hv⟩ := pending state
      rw [staged] at hv
      nomatch hv
    exact ⟨installed unpending, unpending, rising, by simp⟩
  | some k =>
    have unretiring : e.state ≠ .retiring := fun state => by
      have none_ := retiring state
      rw [staged] at none_
      nomatch none_
    cases k with
    | version v =>
      refine ⟨by simp, ?_, ?_, ?_⟩
      · dsimp only
        split <;> simp_all
      · rw [List.map_append, List.pairwise_append]
        refine ⟨rising, List.pairwise_singleton .., fun a ha b hb => ?_⟩
        obtain ⟨k, hk, rfl⟩ := List.mem_map.1 ha
        obtain rfl := List.mem_singleton.1 hb
        exact Nat.lt_succ_of_le (below k hk)
      · dsimp only
        split <;> simp_all
    | retirement =>
      have unpending : e.state ≠ .pending := fun state => by
        obtain ⟨-, v, hv⟩ := pending state
        rw [staged] at hv
        nomatch hv
      have live : e.state = .live := by cases state : e.state <;> simp_all
      exact ⟨installed unpending, by simp [live], rising, by simp [live]⟩

end NoContextOpen

theorem afterAll_disturbed (g : Signature) (segs : List Nat) : (g.afterAll segs).disturbed = true ↔
    g.disturbed = true ∨ (g.status = .running ∧ ∃ seg ∈ segs, seg < g.position) := by
  unfold Signature.afterAll
  split <;> simp_all

theorem afterAll_status (g : Signature) (segs : List Nat) : (g.afterAll segs).status = g.status := by
  unfold Signature.afterAll
  split <;> rfl

theorem afterAll_position (g : Signature) (segs : List Nat) : (g.afterAll segs).position = g.position := by
  unfold Signature.afterAll
  split <;> rfl

/-- A boundary with no context open disturbs a walk that has passed a changed entry or one that goes. -/
theorem boundaryFor_disturbed {c : Cat} {xs : List Context} (closed : ∀ x ∈ xs, x.isOpen = false)
    (consistent : ∀ e ∈ c.entries, e.2.consistent c.epoch) :
    (c.boundaryFor xs).sign.disturbed = true ↔ c.sign.disturbed = true ∨ (c.sign.status = .running ∧
      ∃ e ∈ c.entries, e.2.seg < c.sign.position ∧ (e.2.staged ≠ none ∨ e.2.state = .retiring)) := by
  have goes {e : Nat × Entry} (he : e ∈ c.entries) : goneFor xs (e.2.atBoundary (c.epoch + 1)) = true ↔
      e.2.state = .retiring ∨ e.2.staged = some .retirement := by
    rw [goneFor_of_closed closed, beq_iff_eq]
    exact (atBoundary_consistent (consistent e he)).2.2.2
  have seg (e : Entry) : (e.atBoundary (c.epoch + 1)).seg = e.seg := by
    rw [atBoundary_eq]
    cases e.staged with
    | none => rfl
    | some k => cases k <;> rfl
  have sign : (c.boundaryFor xs).sign = ((c.sign.afterAll ((c.entries.filter fun e => e.2.staged.isSome).map fun e => e.2.seg)).afterAll
      (((steppedCat c).entries.filter fun e => goneFor xs e.2).map fun e => e.2.seg)) := by
    rw [boundaryFor_eq]
    rfl
  rw [sign, afterAll_disturbed, afterAll_disturbed, afterAll_status, afterAll_position, or_assoc, ← and_or_left]
  refine or_congr_right (and_congr_right fun _ => ?_)
  simp only [List.mem_map, List.mem_filter, steppedCat]
  constructor
  · rintro (⟨_, ⟨e, ⟨he, staged⟩, rfl⟩, low⟩ | ⟨_, ⟨_, ⟨⟨e, he, rfl⟩, gone⟩, rfl⟩, low⟩)
    · exact ⟨e, he, low, .inl (Option.isSome_iff_ne_none.1 staged)⟩
    · refine ⟨e, he, (seg e.2).symm ▸ low, ?_⟩
      rcases (goes he).1 gone with retiring | staged
      · exact .inr retiring
      · exact .inl (by simp [staged])
  · rintro ⟨e, he, low, staged | retiring⟩
    · exact .inl ⟨_, ⟨e, ⟨he, Option.isSome_iff_ne_none.2 staged⟩, rfl⟩, low⟩
    · exact .inr ⟨_, ⟨_, ⟨⟨e, he, rfl⟩, (goes he).2 (.inl retiring)⟩, rfl⟩, (seg e.2).symm ▸ low⟩

/-- Settles O23: the boundary, then what it leaves of an entry when no context is open. -/
theorem commitBoundaryInstallsStagedVersions : Obligations.CommitBoundaryInstallsStagedVersions := by
  intro s tag long idle unopened t
  have running : s.running .commit = true := by
    rw [State.running, long]
    rfl
  have completes : exec .commitBoundaryComplete s = .next t.beginDueBatch.serveLatch := by
    change execCommitBoundaryComplete s = _
    rw [execCommitBoundaryComplete, if_pos ⟨running, idle, unopened⟩, boundary_eq]
    simp only [State.completeLong, long]
    rfl
  refine ⟨completes, fun undue unlatched => ?_, fun closedA closedB ok => ?_⟩
  · rw [completes, beginDueBatch_of_blocked (s := t) (.inl undue), serveLatch_of_unlatched]
    · exact congrArg Latch.opening unlatched
    · exact congrArg Latch.closing unlatched
  have closed : ∀ x ∈ [s.exc.ctxA, s.exc.ctxB], x.isOpen = false := by simp [closedA, closedB]
  obtain ⟨-, -, -, consistent, -⟩ := ok
  refine ⟨fun e he => ?_, fun i e v he staged live => ?_, fun i e k he unstaged live last => ?_,
    boundaryFor_disturbed closed consistent⟩
  · obtain ⟨e', he', stays, rfl⟩ := mem_boundaryFor.1 he
    obtain ⟨installed, unpending, rising, -⟩ := atBoundary_consistent (consistent e' he')
    obtain ⟨k, last⟩ := Option.ne_none_iff_exists'.1 fun none_ => installed (List.getLast?_eq_none_iff.1 none_)
    refine ⟨?_, atBoundary_staged .., ?_⟩
    · dsimp only
      rw [keptFor_of_closed closed, filter_last rising last]
      rfl
    · rw [goneFor_of_closed closed] at stays
      dsimp only
      cases state : (e'.2.atBoundary (s.cat.epoch + 1)).state <;> simp_all
  · obtain ⟨-, -, rising, retiring⟩ := atBoundary_consistent (consistent _ he)
    have stepped : e.atBoundary (s.cat.epoch + 1) = { e with
        state := .live, installed := e.installed ++ [{ version := v, epoch := s.cat.epoch + 1 }], staged := none
        suspect := false, broken := 0 } := by
      rw [atBoundary_eq]
      simp only [staged]
      cases state : e.state <;> simp_all
    have stays : goneFor [s.exc.ctxA, s.exc.ctxB] (e.atBoundary (s.cat.epoch + 1)) = false := by
      rw [goneFor_of_closed closed, stepped]
      rfl
    refine mem_boundaryFor.2 ⟨_, he, stays, ?_⟩
    have kept : keptFor [s.exc.ctxA, s.exc.ctxB] (e.atBoundary (s.cat.epoch + 1)) =
        [{ version := v, epoch := s.cat.epoch + 1 }] := by
      rw [keptFor_of_closed closed, filter_last rising]
      rw [stepped]
      exact List.getLast?_concat
    dsimp only
    rw [kept, stepped]
  · have stepped : e.atBoundary (s.cat.epoch + 1) = e := by
      rw [atBoundary_eq]
      simp only [unstaged]
    have stays : goneFor [s.exc.ctxA, s.exc.ctxB] (e.atBoundary (s.cat.epoch + 1)) = false := by
      rw [stepped]
      exact goneFor_of_state (by simp [live])
    refine mem_boundaryFor.2 ⟨_, he, stays, ?_⟩
    dsimp only
    rw [stepped, keptFor_of_closed closed]
    refine congrArg (fun l => (i, { e with installed := l })) (List.filter_congr fun k' _ => ?_)
    rw [last, Bool.eq_iff_iff, beq_iff_eq, beq_iff_eq, Option.some.injEq]
    exact eq_comm

end Sys2Proof.Proofs

/-! ## Proofs: the pause line and the head of the emission queue (chapter 7) -/

namespace Sys2Proof.Proofs

open Sys2Proof Sys2Proof.Machine Sys2Proof.Laws

section Pause

variable {s : State}

theorem exec_pauseLineFall (s : State) : exec .pauseLineFall s =
    .next (State.takeHead { s with cop := { s.cop with state := s.cop.state.resume, pause := false } }) := rfl

theorem exec_pauseLineRise_of_other (h : ∀ r, s.cop.state ≠ .sendingTrailer r .atFirst) :
    exec .pauseLineRise s = .next { s with cop := { s.cop with pause := true } } := by
  change execPauseLineRise s = _
  unfold execPauseLineRise
  split
  · exact absurd ‹_› (h _)
  · rfl

theorem risen_eq (gone : Bool) : TrailerPoint.risen gone = .held ∨ TrailerPoint.risen gone = .begun := by
  cases gone
  · exact .inl rfl
  · exact .inr rfl

theorem takeHead_of_waiting (h : s.cop.state ≠ .idle ∨ s.cop.pause = true ∨ s.exc.flushing = true ∨ s.ctb.queue = []) :
    s.takeHead = s := by
  unfold State.takeHead
  split
  case isFalse => rfl
  case isTrue ready =>
    obtain ⟨idle, unpaused, open_⟩ := ready
    rcases h with h | h | h | h
    · exact absurd idle h
    · exact absurd (h.symm.trans unpaused) (by decide)
    · exact absurd (h.symm.trans open_) (by decide)
    · rw [h]

theorem takeHead_of_slot (idle : s.cop.state = .idle) (unpaused : s.cop.pause = false) (open_ : s.exc.flushing = false)
    {n : Nat} {rest : List QueueItem} (head : s.ctb.queue = .slot n :: rest) :
    s.takeHead = { s.withSlot n (fun e => { e with state := .emitting }) with
      ctb := { (s.withSlot n fun e => { e with state := .emitting }).ctb with queue := rest }
      cop := { s.cop with state := .preparing n } } := by
  rw [State.takeHead, if_pos ⟨idle, unpaused, open_⟩, head]
  rfl

theorem lists_of_unfixed {c : Ctx} (unfixed : (s.ctx c).summary.fixed = none) : s.lists c =
    { missing := ((s.ctx c).progress.filter fun r => !r.withdrawn && !s.finished c r).map fun r => r.seg
      withdrawn := ((s.ctx c).progress.filter fun r => r.withdrawn).map fun r => r.seg } := by
  rw [State.lists, unfixed]

theorem takeHead_of_trailer (idle : s.cop.state = .idle) (unpaused : s.cop.pause = false) (open_ : s.exc.flushing = false)
    {c : Ctx} {rest : List QueueItem} (head : s.ctb.queue = .trailer c :: rest) :
    s.takeHead = { s with
      exc := s.exc.setCtx c { s.ctx c with summary := { (s.ctx c).summary with fixed := some (s.lists c) } }
      ctb := { s.ctb with queue := rest }
      cop := { s.cop with state := .sendingTrailer (s.trailerOf c) .atFirst } } := by
  rw [State.takeHead, if_pos ⟨idle, unpaused, open_⟩, head]
  rfl

end Pause

/-- Settles O52: the port by what it sends, and the head of the queue by what it is. -/
theorem pauseHoldsAndFreesThePort : Obligations.PauseHoldsAndFreesThePort := by
  intro s
  have falls {st : PortState} (h : s.cop.state.resume = st) : exec .pauseLineFall s =
      .next (State.takeHead { s with cop := { s.cop with state := st, pause := false } }) := h ▸ exec_pauseLineFall s
  refine ⟨fun r atFirst => ⟨TrailerPoint.risen (Config.firstWordGone s.cmd.free), risen_eq _, ?_⟩,
    exec_pauseLineRise_of_other, ⟨fun n h rows position held state => falls ?_, fun r state => falls ?_,
      fun r point state unheld => falls ?_, fun held state => falls ?_, fun state => falls ?_⟩,
    takeHead_of_waiting, fun idle unpaused open_ => ⟨fun n rest head => takeHead_of_slot idle unpaused open_ head,
      fun c rest head unfixed => ?_⟩⟩
  · change execPauseLineRise s = _
    rw [execPauseLineRise, atFirst]
  · rw [state]
    rfl
  · rw [state]
    rfl
  · rw [state, PortState.resume, if_neg unheld]
  · rw [state]
    rfl
  · rcases state with state | ⟨n, state⟩ | state
    all_goals
      rw [state]
      rfl
  · intro x lists m r
    rw [takeHead_of_trailer idle unpaused open_ head, State.trailerOf, lists_of_unfixed unfixed]

end Sys2Proof.Proofs

/-! ## Proofs: the errors that reads of cell memory find (R107, R139) -/

namespace Sys2Proof.Proofs

open Sys2Proof Sys2Proof.Machine Sys2Proof.Laws

/-! ### Cell memory -/

section Records

variable {α : Type}

theorem read_write_other (t : Table α) {k j : Nat} (a : α) (h : j ≠ k) : (Table.write t k a).read j = t.read j := by
  induction t with
  | nil => simp [Table.write, Table.read, h.symm]
  | cons e t ih =>
    simp only [Table.write]
    split
    · simp [Table.read, h.symm]
    · split
      · next same => simp [Table.read, same ▸ h.symm, h.symm]
      · simp only [Table.read, ih]

end Records

/-- The record of a pair that was lost. -/
def lostRecord : SkyRecord := { sum := 0, weight := 0, damaged := true }

theorem memory_read_lost (m : Memory) {a b : Nat} (h : b ≠ a) : Memory.read (Memory.write m a lostRecord) b = Memory.read m b := by
  rw [Memory.read, Memory.write, if_neg (by decide), read_write_other m _ h, Memory.read]

/-! ### Findings in payload order -/

theorem errorsWellFormed_iff (found : List (Nat × MemoryError)) : errorsWellFormed found = true ↔
    (found.map Prod.fst).Pairwise (· < ·) ∧ ∀ e ∈ found, e.1 < 4096 := by
  rw [← List.isChain_iff_pairwise]
  induction found with
  | nil => simp [errorsWellFormed]
  | cons e rest ih =>
    cases rest with
    | nil => simp [errorsWellFormed, Config.cellPixels]
    | cons e' rest =>
      simp only [errorsWellFormed, Bool.and_eq_true, decide_eq_true_eq, ih, List.map_cons, List.isChain_cons_cons,
        List.forall_mem_cons]
      constructor
      · rintro ⟨rises, chain, bound, bounds⟩
        exact ⟨⟨rises, chain⟩, by omega, bound, bounds⟩
      · rintro ⟨⟨rises, chain⟩, -, bound, bounds⟩
        exact ⟨rises, chain, bound, bounds⟩

theorem nodup_of_errorsWellFormed {found : List (Nat × MemoryError)} (h : errorsWellFormed found = true) :
    (found.map Prod.fst).Nodup := ((errorsWellFormed_iff found).1 h).1.imp Nat.ne_of_lt

theorem errorsBeforeCut_wellFormed (draw : Nat) : errorsWellFormed (errorsBeforeCut draw) = true := by
  rw [errorsWellFormed_iff, errorsBeforeCut]
  have position {i : Nat} {e : Nat × MemoryError} (he : ((Config.foundBeforeCut draw i).map fun e => (i, e)) = some e) :
      e.1 = i := by
    obtain ⟨k, -, rfl⟩ := Option.map_eq_some_iff.1 he
    rfl
  constructor
  · rw [List.pairwise_map]
    refine List.pairwise_lt_range.filterMap _ fun i j rises e he e' he' => ?_
    rwa [position he, position he']
  · intro e he
    obtain ⟨i, hi, he⟩ := List.mem_filterMap.1 he
    exact position he ▸ List.mem_range.1 hi

/-! ### The effect of some findings, found one after another -/

/-- The slot's record after `fresh` of its pixels were newly marked. -/
def markedBy (fresh : Nat) (e : Slot) : Slot :=
  { e with damaged := e.damaged + fresh, damagedFlag := e.damagedFlag || decide (0 < fresh) }

theorem markedBy_zero (e : Slot) : markedBy 0 e = e := by simp [markedBy]

theorem markedBy_succ (e : Slot) (fresh : Nat) :
    markedBy fresh { e with damaged := e.damaged + 1, damagedFlag := true } = markedBy (fresh + 1) e := by
  simp [markedBy, Nat.add_assoc, Nat.add_comm 1]

theorem withSlot_self (s : State) (n : Nat) {f : Slot → Slot} (h : ∀ e, f e = e) : s.withSlot n f = s := by
  simp [State.withSlot, h]

theorem changeSlot_withSlot (s : State) (n : Nat) (f g : Slot → Slot) :
    (s.changeSlot n f).withSlot n g = s.withSlot n fun e => g (f e) := by
  simp only [State.changeSlot, Table.change, State.withSlot, List.map_map]
  congr 3
  funext e
  simp only [Function.comp_apply]
  split <;> rfl

/-- The findings of a list that lose a pair. -/
def lostIn (found : List (Nat × MemoryError)) : List (Nat × MemoryError) := found.filter fun e => e.2 == .uncorrectable

/-- How many of the findings mark a pixel of the slot that was not marked. -/
def freshIn (m : Memory) (n : Nat) (found : List (Nat × MemoryError)) : Nat :=
  ((lostIn found).filter fun e => !(Memory.read m (n * 4096 + e.1)).damaged).length

theorem errorsBy_eq (s : State) (n : Nat) (found : List (Nat × MemoryError)) :
    let t := s.withSlot n (markedBy (freshIn s.ctb.memory n found))
    s.errorsBy n found = { t with
      ctb := { t.ctb with
        corrected := raisedBy 4294967295 s.ctb.corrected (found.length - (lostIn found).length)
        memory := (lostIn found).foldl (fun m e => Memory.write m (n * 4096 + e.1) lostRecord) s.ctb.memory }
      att := { s.att with flags := s.att.flags ||| if lostIn found = [] then 0 else 0b10000000#9 } } := rfl

theorem errorsBy_nil (s : State) (n : Nat) : s.errorsBy n [] = s := by
  rw [errorsBy_eq, withSlot_self s n (f := markedBy (freshIn s.ctb.memory n [])) markedBy_zero]
  simp [lostIn, raisedBy]

theorem lostIn_single (position : Nat) (found : List (Nat × MemoryError)) :
    lostIn ((position, .single) :: found) = lostIn found := rfl

theorem lostIn_lost (position : Nat) (found : List (Nat × MemoryError)) :
    lostIn ((position, .uncorrectable) :: found) = (position, .uncorrectable) :: lostIn found := rfl

theorem lostIn_length_le (found : List (Nat × MemoryError)) : (lostIn found).length ≤ found.length :=
  List.length_filter_le ..

theorem errorsBy_single (s : State) (n position : Nat) (found : List (Nat × MemoryError)) :
    (s.memoryError n position .single).errorsBy n found = s.errorsBy n ((position, .single) :: found) := by
  have length : ((position, MemoryError.single) :: found).length - (lostIn ((position, .single) :: found)).length =
      1 + (found.length - (lostIn found).length) := by
    have := lostIn_length_le found
    rw [lostIn_single, List.length_cons]
    omega
  rw [errorsBy_eq, errorsBy_eq, length, ← raisedBy_add]
  rfl

theorem freshIn_lost_write (m : Memory) (n position : Nat) {found : List (Nat × MemoryError)}
    (apart : position ∉ found.map Prod.fst) :
    freshIn (Memory.write m (n * 4096 + position) lostRecord) n found = freshIn m n found := by
  unfold freshIn
  congr 1
  refine List.filter_congr fun e he => ?_
  have other : e.1 ≠ position := fun same =>
    apart (same ▸ List.mem_map_of_mem (List.mem_filter.1 he).1)
  rw [memory_read_lost m (by omega)]

theorem freshIn_lost (m : Memory) (n position : Nat) (found : List (Nat × MemoryError)) :
    freshIn m n ((position, .uncorrectable) :: found) =
      if (Memory.read m (n * 4096 + position)).damaged = true then freshIn m n found else freshIn m n found + 1 := by
  unfold freshIn
  rw [lostIn_lost, List.filter_cons]
  cases (Memory.read m (n * 4096 + position)).damaged <;> rfl

theorem memory_flag_twice (flags : BitVec 9) (none_ : Prop) [Decidable none_] :
    (flags ||| 0b10000000#9) ||| (if none_ then 0 else 0b10000000#9) = flags ||| 0b10000000#9 := by
  split
  · exact BitVec.or_zero
  · rw [BitVec.or_assoc, BitVec.or_self]

theorem errorsBy_lost (s : State) (n position : Nat) {found : List (Nat × MemoryError)}
    (apart : position ∉ found.map Prod.fst) :
    (s.memoryError n position .uncorrectable).errorsBy n found = s.errorsBy n ((position, .uncorrectable) :: found) := by
  have length : ((position, MemoryError.uncorrectable) :: found).length - (lostIn ((position, .uncorrectable) :: found)).length =
      found.length - (lostIn found).length := by
    rw [lostIn_lost, List.length_cons, List.length_cons, Nat.add_sub_add_right]
  let w : State := { s with ctb.memory := Memory.write s.ctb.memory (n * 4096 + position) lostRecord }
  have found_eq : s.memoryError n position .uncorrectable =
      (if (Memory.read s.ctb.memory (n * 4096 + position)).damaged = true then w
        else w.changeSlot n fun t => { t with damaged := t.damaged + 1, damagedFlag := true }).raise .memory := rfl
  rw [errorsBy_eq s, length, freshIn_lost, found_eq, errorsBy_eq]
  cases marked : (Memory.read s.ctb.memory (n * 4096 + position)).damaged with
  | true =>
    simp only [if_pos, raise_ctb, raise_att]
    rw [show w.ctb.memory = Memory.write s.ctb.memory (n * 4096 + position) lostRecord from rfl,
      freshIn_lost_write _ _ _ apart, show (w.att.raise .memory).flags = s.att.flags ||| 0b10000000#9 from rfl,
      memory_flag_twice]
    rfl
  | false =>
    simp only [Bool.false_eq_true, if_false, raise_ctb, raise_att]
    rw [show (w.changeSlot n _).ctb.memory = Memory.write s.ctb.memory (n * 4096 + position) lostRecord from rfl,
      freshIn_lost_write _ _ _ apart,
      show ((w.changeSlot n _).att.raise .memory).flags = s.att.flags ||| 0b10000000#9 from rfl, memory_flag_twice]
    have marks := changeSlot_withSlot s n (fun t => { t with damaged := t.damaged + 1, damagedFlag := true })
      (markedBy (freshIn s.ctb.memory n found))
    simp only [markedBy_succ] at marks
    have slots := congrArg (fun u : State => u.ctb.slots) marks
    simp only [State.withSlot, State.changeSlot, State.raise] at slots ⊢
    rw [slots]
    rfl

/-- Findings at distinct positions, one after another, are what `errorsBy` says. -/
theorem memoryErrors_eq (s : State) (n : Nat) {found : List (Nat × MemoryError)}
    (apart : (found.map Prod.fst).Nodup) : s.memoryErrors n found = s.errorsBy n found := by
  induction found generalizing s with
  | nil => exact (errorsBy_nil s n).symm
  | cons e found ih =>
    obtain ⟨position, kind⟩ := e
    obtain ⟨head, tail⟩ := List.nodup_cons.1 apart
    have step : s.memoryErrors n ((position, kind) :: found) = (s.memoryError n position kind).errorsBy n found :=
      ih (s.memoryError n position kind) tail
    rw [step]
    cases kind with
    | single => exact errorsBy_single s n position found
    | uncorrectable => exact errorsBy_lost s n position head

/-! ### What the findings leave in memory -/

theorem memory_wf_lost {m : Memory} (h : m.wf = true) (n : Nat) (lost : List (Nat × MemoryError)) :
    Memory.wf (lost.foldl (fun m e => Memory.write m (n * 4096 + e.1) lostRecord) m) = true := by
  induction lost generalizing m with
  | nil => exact h
  | cons e lost ih => exact ih (memory_wf_write m _ _ h)

theorem memory_read_losses {m : Memory} (h : m.wf = true) (n position : Nat) (lost : List (Nat × MemoryError)) :
    Memory.read (lost.foldl (fun m e => Memory.write m (n * 4096 + e.1) lostRecord) m) (n * 4096 + position) =
      if ∃ e ∈ lost, e.1 = position then lostRecord else Memory.read m (n * 4096 + position) := by
  induction lost generalizing m with
  | nil => simp
  | cons e lost ih =>
    rw [List.foldl_cons, ih (memory_wf_write m _ _ h), memory_read_write m _ _ _ h]
    by_cases later : ∃ e ∈ lost, e.1 = position
    · rw [if_pos later, if_pos (by simp [later])]
    · rw [if_neg later]
      by_cases now : e.1 = position
      · rw [if_pos (by omega), if_pos (by simp [now])]
      · rw [if_neg (by omega), if_neg (by simpa [now] using later)]

theorem mem_lostIn {found : List (Nat × MemoryError)} {position : Nat} :
    (∃ e ∈ lostIn found, e.1 = position) ↔ (position, MemoryError.uncorrectable) ∈ found := by
  constructor
  · rintro ⟨⟨i, kind⟩, he, rfl⟩
    obtain ⟨mem, lost⟩ := List.mem_filter.1 he
    have lost : kind = .uncorrectable := eq_of_beq lost
    exact lost ▸ mem
  · intro mem
    exact ⟨_, List.mem_filter.2 ⟨mem, rfl⟩, rfl⟩

theorem memory_wf_errorsBy {s : State} (h : s.ctb.memory.wf = true) (n : Nat) (found : List (Nat × MemoryError)) :
    Table.wf (s.errorsBy n found).ctb.memory = true :=
  ((memory_wf_iff _).1 (memory_wf_lost h n (lostIn found))).1

theorem memory_read_errorsBy {s : State} (h : s.ctb.memory.wf = true) (n position : Nat) (found : List (Nat × MemoryError)) :
    Memory.read (s.errorsBy n found).ctb.memory (n * 4096 + position) =
      foundIn found position (Memory.read s.ctb.memory (n * 4096 + position)) := by
  rw [errorsBy_eq]
  refine (memory_read_losses h n position (lostIn found)).trans ?_
  simp only [mem_lostIn]
  rfl

end Sys2Proof.Proofs

/-! ## Proofs: preparation and units (R139 to R142, 10.4) -/

namespace Sys2Proof.Proofs

open Sys2Proof Sys2Proof.Machine Sys2Proof.Laws

/-! ### The output rows (R139, R140) -/

theorem output_clear : SkyRecord.clear.output = none := rfl

theorem output_of_blank {r : SkyRecord} (h : r.damaged = true ∨ r.weight = 0) : r.output = none := if_pos h

theorem output_of_weighted {r : SkyRecord} (intact : r.damaged = false) (weighted : r.weight ≠ 0) :
    r.output = some { value := roundDiv r.sum r.weight, weight := r.weight } := by
  rw [SkyRecord.output, if_neg (by simp [intact, weighted])]

theorem output_record (m : Memory) (a : Nat) : (Memory.read m a).output = (Table.read m a).bind SkyRecord.output := by
  rw [Memory.read]
  cases Table.read m a <;> rfl

/-- A slot's output row holds at a position the output of the record at its address. -/
theorem outputRows_read {m : Memory} (h : Table.wf m = true) (n : Nat) {position : Nat} (bound : position < 4096) :
    (outputRows m n).read position = (Memory.read m (n * 4096 + position)).output := by
  rw [output_record]
  induction m with
  | nil => rfl
  | cons e m ih =>
    obtain ⟨rising, wf⟩ := (table_wf_cons e m).1 h
    have ih := ih wf
    have here (mine : e.1 / 4096 = n) : e.1 % 4096 = position ↔ e.1 = n * 4096 + position := by omega
    have rows : outputRows (e :: m) n =
        if e.1 / 4096 = n then
          match e.2.output with
          | none => outputRows m n
          | some p => (e.1 % 4096, p) :: outputRows m n
        else outputRows m n := by
      simp only [outputRows, List.filterMap_cons, Config.cellPixels]
      split_ifs <;> cases e.2.output <;> rfl
    rw [rows]
    by_cases at_ : e.1 = n * 4096 + position
    · have mine : e.1 / 4096 = n := by omega
      have later : Table.read m (n * 4096 + position) = none := read_eq_none_of_lt m _ fun x hx => at_ ▸ rising x hx
      rw [later] at ih
      rw [if_pos mine, show Table.read (e :: m) (n * 4096 + position) = some e.2 from if_pos at_]
      cases blank : e.2.output with
      | none => exact ih.trans blank.symm
      | some p => exact (if_pos ((here mine).2 at_)).trans blank.symm
    · rw [show Table.read (e :: m) (n * 4096 + position) = Table.read m (n * 4096 + position) from if_neg at_]
      split_ifs with mine
      · split
        · exact ih
        · exact (if_neg fun same => at_ ((here mine).1 same)).trans ih
      · exact ih

/-! ### The header and the end of a preparation (R141, R143) -/

theorem suspectNow_eq (c : Cat) (seg : Nat) : c.suspectNow seg = match c.find seg with
    | none => false
    | some (_, k) => k.suspect := by
  rw [Cat.suspectNow]
  cases c.find seg <;> rfl

theorem suspectFlag_eq (l : List Contributor) :
    (l.any fun k => k.suspect.getD false) = l.any fun q => q.suspect == some true := by
  congr 1
  funext q
  rcases q.suspect with _ | _ | _ <;> rfl

/-- Only the record listed under its number is changed. -/
theorem withSlot_congr {s : State} {n : Nat} {e : Slot} (wf : s.ctb.slots.wf = true) (listed : s.ctb.slots.read n = some e)
    {f g : Slot → Slot} (h : f e = g e) : s.withSlot n f = s.withSlot n g := by
  have same : (s.ctb.slots.map fun e => (e.1, if e.1 = n then f e.2 else e.2)) =
      s.ctb.slots.map fun e => (e.1, if e.1 = n then g e.2 else e.2) := by
    refine List.map_congr_left fun k hk => ?_
    split_ifs with mine
    · have read := read_eq_some_of_mem wf hk
      rw [mine, listed, Option.some_inj] at read
      rw [← read, h]
    · rfl
  rw [State.withSlot, same]
  rfl

theorem slots_wf_errorsBy {s : State} (h : s.ctb.slots.wf = true) (n : Nat) (found : List (Nat × MemoryError)) :
    (s.errorsBy n found).ctb.slots.wf = true := table_wf_map s.ctb.slots _ h

theorem prepare_of_read {s : State} {n : Nat} {found : List (Nat × MemoryError)} {e : Slot}
    (apart : (found.map Prod.fst).Nodup) (listed : (s.errorsBy n found).ctb.slots.read n = some e) :
    let t := (s.errorsBy n found).changeSlot n fun k => k.withSuspects s.cat
    s.prepare n found = { t with
      cop.state := .sendingCell n (s.headerOf (e.withSuspects s.cat)) (outputRows (s.errorsBy n found).ctb.memory n) 0
        s.cop.pause } := by
  intro t
  have read : t.ctb.slots.read n = some (e.withSuspects s.cat) := by
    refine (read_change (s.errorsBy n found).ctb.slots n n fun k => k.withSuspects s.cat).trans ?_
    rw [if_pos rfl, listed]
    rfl
  rw [State.prepare, memoryErrors_eq s n apart]
  change (match t.ctb.slots.read n with
    | none => _
    | some k => _) = _
  rw [read]
  rfl

/-! ### A unit sent (R142) -/

theorem unitSent_of_row {s : State} {n position : Nat} {h : CellHeader} {rows : Table OutputPixel}
    (sending : s.cop.state = .sendingCell n h rows position false) (more : position < 64) :
    exec .unitSent s = .next { s with cop := { s.cop with
      state := .sendingCell n h rows (position + 1) s.cop.pause
      sent := some (.cellWords position (unitWords h rows position)) } } := by
  rw [show exec .unitSent s = execUnitSent s from rfl, execUnitSent, sending]
  exact if_pos more

theorem unitSent_of_last {s : State} {n : Nat} {h : CellHeader} {rows : Table OutputPixel}
    (sending : s.cop.state = .sendingCell n h rows 64 false) :
    exec .unitSent s = .next
      (State.recordSent { s with cop.sent := some (.cellWords 64 (unitWords h rows 64)) } n) := by
  rw [show exec .unitSent s = execUnitSent s from rfl, execUnitSent, sending]
  rfl

theorem recordSent_of_read {s : State} {n : Nat} {e : Slot} (listed : s.ctb.slots.read n = some e) :
    s.recordSent n = State.takeHead { (s.freeSlot n).count e.ctx fun m => m.emitted e.completeness e.damaged with
      cop := { (s.freeSlot n).cop with state := .idle } } := by
  rw [State.recordSent, listed]
  rfl

/-- A count that reaches the summary. -/
theorem count_of_counted {s : State} {c : Ctx} (open_ : (s.ctx c).isOpen = true) (running : (s.ctx c).summary.fixed = none)
    (f : Summary → Summary) : s.count c f = s.withSummary c f := by
  have counted : (s.ctx c).count f = { s.ctx c with summary := f (s.ctx c).summary } := by
    rw [Context.count, if_pos (by simp [open_, running])]
  simp only [State.count, State.changeCtx, State.withSummary]
  rw [← counted]
  rfl

theorem isOpen_of_state {x y : Context} (h : y.state = x.state) : x.isOpen = y.isOpen := by
  rw [isOpen_eq, isOpen_eq, h]

theorem counted_of_kept {s t : State} (kept : ExcKept s.exc t.exc) {c : Ctx} (open_ : (s.ctx c).isOpen = true)
    (running : (s.ctx c).summary.fixed = none) : (t.ctx c).isOpen = true ∧ (t.ctx c).summary.fixed = none :=
  ⟨isOpen_of_state (kept.ctx c).state ▸ open_, (kept.ctx c).fixed.trans running⟩

/-- Settles O50. -/
theorem preparationAndUnitsSendTheRecord : Obligations.PreparationAndUnitsSendTheRecord := by
  refine ⟨fun s n found e preparing slots memory wellFormed listed => ?_,
    fun s n h rows position sending more => unitSent_of_row sending more,
    fun s n h rows e sending listed open_ running => ?_,
    fun h rows few => ⟨sentWords_length h, unitWords_eq h rows few⟩⟩
  · intro suspects h
    refine ⟨outputRows (s.errorsBy n found).ctb.memory n, ?_, fun y hy x hx => ?_⟩
    · have header : s.headerOf (e.withSuspects s.cat) = h := by
        simp only [State.headerOf, Slot.withSuspects, suspectNow_eq, suspectFlag_eq]
        rfl
      rw [show exec (.preparationEnd found) s = execPreparationEnd found s from rfl, execPreparationEnd, preparing]
      refine congrArg Host.Outcome.next ((prepare_of_read (nodup_of_errorsWellFormed wellFormed) listed).trans ?_)
      have filled := withSlot_congr (slots_wf_errorsBy slots n found) listed (f := fun k => k.withSuspects s.cat)
        (g := fun k => { k with contributors := suspects }) (by
          simp only [Slot.withSuspects, suspectNow_eq]
          rfl)
      rw [header, ← filled]
      rfl
    · intro r
      have read : (outputRows (s.errorsBy n found).ctb.memory n).read (y * 64 + x) = r.output := by
        rw [outputRows_read (memory_wf_errorsBy memory n found) n (by omega), memory_read_errorsBy memory]
      refine ⟨fun blank => read.trans (output_of_blank blank), fun intact weighted =>
        ⟨roundDiv r.sum r.weight, read.trans (output_of_weighted intact weighted),
          roundDiv_nearest r.sum (Nat.pos_of_ne_zero weighted), roundDiv_tie_away r.sum (Nat.pos_of_ne_zero weighted)⟩⟩
  · intro freed u counted
    let sent : State := { s with cop.sent := some (.cellWords 64 (unitWords h rows 64)) }
    have kept : ExcKept s.exc u.exc := freeSlot_kept sent n
    obtain ⟨open_, running⟩ := counted_of_kept kept open_ running
    have count : (sent.freeSlot n).count e.ctx (fun m => m.emitted e.completeness e.damaged) = counted :=
      (count_of_counted (s := u) open_ running _).trans rfl
    rw [unitSent_of_last sending]
    change Host.Outcome.next (sent.recordSent n) = _
    rw [recordSent_of_read (s := sent) listed, count]
    rfl

end Sys2Proof.Proofs

/-! ## Proofs: the completion of a FLUSH (R67, R68) -/

namespace Sys2Proof.Proofs

open Sys2Proof Sys2Proof.Machine Sys2Proof.Laws

theorem free_holds (seg : Nat) : Context.free.holds seg = false := rfl

theorem free_resolve (e : Entry) : Context.free.resolve e = none := rfl

/-- FREE contexts hold nothing and resolve nothing. -/
theorem releasedFor_free (c : Cat) : c.releasedFor [Context.free, Context.free] = c.releasedFor [] := by
  simp [Cat.releasedFor, free_holds, free_resolve]

/-- The port after a FLUSH has cut its emission (R146). -/
def cutPort (p : PortState) (pause : Bool) : PortState :=
  match p with
  | .preparing _ | .sendingCell _ _ _ _ _ | .sendingTrailer _ _ => .aborting pause
  | .reset => .reset
  | .idle => .idle
  | .aborting h => .aborting h

/-- Steps 4 to 6 of a FLUSH. -/
theorem cutEmission_eq (s : State) : State.cutEmission { s with ctb := s.ctb.emptied } = { s with
    ctb := { s.ctb with
      slots := s.ctb.slots.filter fun e => e.2.state == .emitting && s.cop.state.slot? != some e.1
      touch := [], queue := [] }
    cop := { s.cop with state := cutPort s.cop.state s.cop.pause } } := by
  have cut (n : Nat) : Table.remove (s.ctb.slots.filter fun e => e.2.state == .emitting) n =
      s.ctb.slots.filter fun e => e.2.state == .emitting && some n != some e.1 := by
    rw [Table.remove, List.filter_filter]
    congr 1
    funext e
    rw [Bool.and_comm]
    congr 1
    simp [bne, eq_comm]
  have whole : (s.ctb.slots.filter fun e => e.2.state == .emitting) =
      s.ctb.slots.filter fun e => e.2.state == .emitting && none != some e.1 := by
    congr 1
    funext e
    exact (Bool.and_true _).symm
  rcases s with ⟨_, _, _, _, _, ctb, ⟨state, pause, sent⟩, _, _, _, _, _⟩
  cases state with
  | preparing n => simp only [State.cutEmission, Ctb.emptied, cut]; rfl
  | sendingCell n h rows position held => simp only [State.cutEmission, Ctb.emptied, cut]; rfl
  | sendingTrailer t point => simp only [State.cutEmission, Ctb.emptied, whole]; rfl
  | reset => simp only [State.cutEmission, Ctb.emptied, whole]; rfl
  | idle => simp only [State.cutEmission, Ctb.emptied, whole]; rfl
  | aborting held => simp only [State.cutEmission, Ctb.emptied, whole]; rfl

/-- The part after a FLUSH has completed, before the batch and the latch. -/
def flushed (u : State) (tag : Byte) : State := { u with
  cat := u.cat.releasedFor []
  exc := { u.exc with ctxA := Context.free, ctxB := Context.free, flushing := false }
  ctb := { u.ctb with
    slots := u.ctb.slots.filter fun e => e.2.state == .emitting && u.cop.state.slot? != some e.1
    touch := [], queue := [], partsA := [], partsB := [] }
  cop := { u.cop with state := cutPort u.cop.state u.cop.pause }
  att := { u.att with flags := u.att.flags ||| 0b100000000#9 }
  cmd := { u.cmd with long := none, last := some { kind := .flush, tag := tag, result := .ok, value := none } } }

theorem flushRest_eq (s : State) : s.flushRest = { s.readBeforeCut with
    cat := s.readBeforeCut.cat.releasedFor []
    exc := { s.readBeforeCut.exc with ctxA := Context.free, ctxB := Context.free, flushing := false }
    ctb := { s.readBeforeCut.ctb with
      slots := s.readBeforeCut.ctb.slots.filter fun e =>
        e.2.state == .emitting && s.readBeforeCut.cop.state.slot? != some e.1
      touch := [], queue := [], partsA := [], partsB := [] }
    cop := { s.readBeforeCut.cop with state := cutPort s.readBeforeCut.cop.state s.readBeforeCut.cop.pause } } := by
  rw [State.flushRest, cutEmission_eq, State.release, release_eq]
  simp only [Exc.contexts, releasedFor_free]

theorem readBeforeCut_of_preparing {s : State} {n : Nat} (h : s.cop.state = .preparing n) :
    s.readBeforeCut = { s.errorsBy n (errorsBeforeCut s.cmd.free) with cmd := { s.cmd with free := s.cmd.free + 1 } } := by
  rw [State.readBeforeCut, h]
  exact memoryErrors_eq _ n (nodup_of_errorsWellFormed (errorsBeforeCut_wellFormed s.cmd.free))

theorem readBeforeCut_of_other {s : State} (h : ∀ n, s.cop.state ≠ .preparing n) : s.readBeforeCut = s := by
  rw [State.readBeforeCut]
  cases state : s.cop.state with
  | preparing n => exact absurd state (h n)
  | _ => rfl

section Completion

variable {s : State} {tag : Byte} (long : s.cmd.long = some { kind := .flush, tag := tag }) (flushing : s.exc.flushing = true)
  (idle : s.ple.commit = none) (a : s.exc.ctxA.ending = false) (b : s.exc.ctxB.ending = false)

include long flushing idle a b

theorem exec_flushComplete (kept : s.readBeforeCut.cmd.long = s.cmd.long) :
    exec .flushComplete s = .next (flushed s.readBeforeCut tag).beginDueBatch.serveLatch := by
  have complete : s.flushRest.completeLong .ok none = flushed s.readBeforeCut tag := by
    rw [flushRest_eq]
    simp only [State.completeLong]
    rw [kept, long]
    rfl
  have running : s.running .flush = true := by simp [State.running, long]
  have queue : (flushed s.readBeforeCut tag).beginDueBatch.serveLatch.ctb.queue = [] := by
    simp [flushed]
  change execFlushComplete s = _
  rw [execFlushComplete, if_pos ⟨running, flushing, idle, a, b⟩, complete, takeHead_of_waiting (.inr (.inr (.inr queue)))]

/-- With no batch due and no edge latched nothing follows a FLUSH. -/
theorem exec_flushComplete_alone (kept : s.readBeforeCut.cmd.long = s.cmd.long) (undue : s.cat.batch ≠ .due)
    (unlatched : s.exc.latch = { opening := false, closing := false }) :
    exec .flushComplete s = .next (flushed s.readBeforeCut tag) := by
  have batch : (flushed s.readBeforeCut tag).cat.batch ≠ .due := by
    rw [show (flushed s.readBeforeCut tag).cat.batch = s.readBeforeCut.cat.batch from rfl, (readBeforeCut_frame s).2.1]
    exact undue
  have latch : (flushed s.readBeforeCut tag).exc.latch = { opening := false, closing := false } := by
    rw [show (flushed s.readBeforeCut tag).exc.latch = s.readBeforeCut.exc.latch from rfl, (readBeforeCut_frame s).2.2.1]
    exact unlatched
  rw [exec_flushComplete long flushing idle a b kept, beginDueBatch_of_blocked (.inl batch),
    serveLatch_of_unlatched (by rw [latch]) (by rw [latch])]

end Completion

/-- Settles O36. -/
theorem flushCompleteFreesEveryContext : Obligations.FlushCompleteFreesEveryContext := by
  intro s tag long flushing idle a b done follows
  have follows_of {u : State} (read : s.readBeforeCut = u) (kept : u.cmd.long = s.cmd.long) : follows (done u) := by
    subst read
    exact ⟨exec_flushComplete long flushing idle a b kept, exec_flushComplete_alone long flushing idle a b kept⟩
  refine ⟨fun other => follows_of (readBeforeCut_of_other other) rfl, fun n preparing =>
    ⟨errorsBeforeCut s.cmd.free, errorsBeforeCut_wellFormed _, follows_of (readBeforeCut_of_preparing preparing) rfl⟩,
    fun e he retiring => ?_, fun i e he alive => ?_⟩
  · obtain ⟨x, hx, -⟩ := retiring_held he retiring
    exact absurd hx List.not_mem_nil
  · refine mem_releasedFor.2 ⟨(i, e), he, goneFor_of_state alive, ?_⟩
    simp [keptFor]

end Sys2Proof.Proofs

/-! ## Proofs: the first step of a FLUSH (R66, R67, R133) -/

namespace Sys2Proof.Proofs

open Sys2Proof Sys2Proof.Machine Sys2Proof.Laws

/-! ### Attempts under a FLUSH touch the cell table and the commit -/

/-- Nothing changed but the slots' side of the cell table and the commit. -/
def SlotsOnly (s t : State) : Prop :=
  t = { s with ctb := t.ctb, ple := t.ple } ∧ t.ctb.queue = s.ctb.queue ∧ t.ctb.memory = s.ctb.memory

theorem slotsOnly_refl (s : State) : SlotsOnly s s := ⟨rfl, rfl, rfl⟩

theorem slotsOnly_trans {s t u : State} (h : SlotsOnly s t) (h' : SlotsOnly t u) : SlotsOnly s u := by
  obtain ⟨frame, queue, memory⟩ := h
  obtain ⟨frame', queue', memory'⟩ := h'
  refine ⟨?_, queue'.trans queue, memory'.trans memory⟩
  rw [frame] at frame'
  exact frame'

theorem slotsOnly_exc {s t : State} (h : SlotsOnly s t) : t.exc = s.exc := (congrArg State.exc h.1 :)

theorem giveFree_slotsOnly (s : State) (k : Commit) (cell : CellIndex) (rest : List CellIndex) (n : Nat) :
    SlotsOnly s (s.giveFree k cell rest n) := by
  rw [State.giveFree]
  split
  · exact ⟨rfl, rfl, rfl⟩
  · exact slotsOnly_refl s

theorem giveMore_slotsOnly {s : State} (flushing : s.exc.flushing = true) (k : Commit) (cell : CellIndex)
    (rest : List CellIndex) : SlotsOnly s (s.giveMore k cell rest) := by
  rw [State.giveMore, if_pos flushing]
  split
  · exact slotsOnly_trans ⟨rfl, rfl, rfl⟩ (giveFree_slotsOnly (s.dropSlot _) k cell rest _)
  · exact slotsOnly_refl s

theorem attempt_slotsOnly {s : State} (flushing : s.exc.flushing = true) : SlotsOnly s s.attempt := by
  rw [State.attempt]
  split
  · exact slotsOnly_refl s
  · split
    · split
      · split
        · exact ⟨rfl, rfl, rfl⟩
        · exact slotsOnly_refl s
      · split
        · exact giveFree_slotsOnly ..
        · exact giveMore_slotsOnly flushing ..
    · exact slotsOnly_refl s

/-- The part with a slot FREE, and no victim outstanding (R132). -/
def unlisted (s : State) (n : Nat) : State :=
  { s with ctb.slots := s.ctb.slots.remove n }.changeCommit fun k => { k with victims := k.victims.filter fun i => i != n }

theorem freeSlot_eq (s : State) (n : Nat) : s.freeSlot n = (unlisted s n).attempt := rfl

theorem freeSlot_slotsOnly {s : State} (flushing : s.exc.flushing = true) (n : Nat) : SlotsOnly s (s.freeSlot n) :=
  slotsOnly_trans ⟨rfl, rfl, rfl⟩ (attempt_slotsOnly (s := unlisted s n) flushing)

theorem freeSlots_slotsOnly {s : State} (flushing : s.exc.flushing = true) (ns : List Nat) :
    SlotsOnly s (ns.foldl State.freeSlot s) := by
  induction ns generalizing s with
  | nil => exact slotsOnly_refl s
  | cons n ns ih =>
    have one := freeSlot_slotsOnly flushing n
    exact slotsOnly_trans one (ih ((congrArg Exc.flushing (slotsOnly_exc one)).trans flushing))

/-! ### With no commit nothing waits -/

theorem attempt_of_no_commit {s : State} (h : s.ple.commit = none) : s.attempt = s := by
  rw [State.attempt, h]

/-- The part with other slots. -/
def withSlots (s : State) (slots : Table Slot) : State := { s with ctb := { s.ctb with slots := slots } }

theorem freeSlot_of_no_commit {s : State} (h : s.ple.commit = none) (n : Nat) :
    s.freeSlot n = withSlots s (s.ctb.slots.remove n) := by
  have same : ({ s.ple with commit := s.ple.commit.map fun k => { k with victims := k.victims.filter fun i => i != n } } : Ple) =
      s.ple := by
    rw [h]
    exact congrArg (fun c => ({ s.ple with commit := c } : Ple)) h.symm
  have listed : unlisted s n = withSlots s (s.ctb.slots.remove n) :=
    congrArg (fun p => ({ withSlots s (s.ctb.slots.remove n) with ple := p } : State)) same
  rw [freeSlot_eq, listed, attempt_of_no_commit (s := withSlots s (s.ctb.slots.remove n)) h]

theorem freeSlots_of_no_commit {s : State} (h : s.ple.commit = none) (ns : List Nat) :
    ns.foldl State.freeSlot s = withSlots s (s.ctb.slots.filter fun e => decide (e.1 ∉ ns)) := by
  induction ns generalizing s with
  | nil => simp [withSlots]
  | cons n ns ih =>
    have both : (s.ctb.slots.remove n).filter (fun e => decide (e.1 ∉ ns)) =
        s.ctb.slots.filter fun e => decide (e.1 ∉ n :: ns) := by
      rw [Table.remove, List.filter_filter]
      congr 1
      funext e
      by_cases this : e.1 = n <;> simp [this]
    rw [List.foldl_cons, freeSlot_of_no_commit h, ih (s := withSlots s (s.ctb.slots.remove n)) h, ← both]
    rfl

/-! ### The first step -/

/-- The conditions of a FLUSH come into force: both gather timers stop (R67). -/
def flushStopped (s : State) : State :=
  { s with exc := { s.exc with
    flushing := true
    ctxA := { s.exc.ctxA with timer := none }
    ctxB := { s.exc.ctxB with timer := none } } }

/-- The part after the buffers were abandoned under a FLUSH. -/
def flushAbandoned (s : State) : State := (flushStopped s).attempt.abandonedBy (fun _ => true) .flushed

theorem abandonedBy_slotsOnly {s t : State} (h : SlotsOnly s t) (test : Strip → Bool) (code : VerdictCode) :
    SlotsOnly (s.abandonedBy test code) (t.abandonedBy test code) := by
  obtain ⟨frame, queue, memory⟩ := h
  refine ⟨?_, queue, memory⟩
  generalize t.ctb = ctb, t.ple = ple at frame ⊢
  subst frame
  rfl

section FirstStep

variable {s : State}

theorem flushAbandoned_slotsOnly (s : State) :
    SlotsOnly ((flushStopped s).abandonedBy (fun _ => true) .flushed) (flushAbandoned s) :=
  abandonedBy_slotsOnly (attempt_slotsOnly (s := flushStopped s) rfl) _ _

theorem flushAbandoned_queue (s : State) : (flushAbandoned s).ctb.queue = s.ctb.queue := (flushAbandoned_slotsOnly s).2.1

theorem exec_flushFirstStep (run : s.running .flush = true) (begun : s.exc.flushing = false)
    (opening : s.exc.opening = none) (idle : s.applying = false) :
    exec .flushFirstStep s = .next ((queuedSlots s.ctb.queue).foldl State.freeSlot
      { flushAbandoned s with ctb.queue := queuedTrailers s.ctb.queue }) := by
  have body : (flushAbandoned s).flushQueue = (queuedSlots s.ctb.queue).foldl State.freeSlot
      { flushAbandoned s with ctb.queue := queuedTrailers s.ctb.queue } := by
    rw [State.flushQueue, flushAbandoned_queue]
  change execFlushFirstStep s = _
  rw [execFlushFirstStep, if_pos ⟨run, begun, opening, idle⟩, ← body, flushAbandoned, ← abandonWhere_eq]
  rfl

end FirstStep

/-- Settles O35. -/
theorem flushEmptiesBuffersAndQueue : Obligations.FlushEmptiesBuffersAndQueue := by
  intro s f
  have answers {t : State} {a : Answer} (hr : s.part = .ready) (empty : f.payload = [])
      (ho : State.flushRequest f (ownerView s f) = (t, a)) : exec (.flush f) s = .next (t.place f.tag a) :=
    congrArg Host.Outcome.next (request_places hr ((fits_iff f 0).2 (by rw [empty]; rfl)) ho)
  refine ⟨fun hr empty free => 
      answers (t := ((ownerView s f).acceptLong .flush f.tag).1) (a := .refuse .accepted) hr empty ?_,
    fun hr empty busy => answers (t := ownerView s f) (a := .refuse .busy) hr empty ?_,
    fun run begun opening idle => ?_⟩
  · rw [State.flushRequest, if_neg (by rw [show (ownerView s f).cmd.long = none from free]; decide)]
    rfl
  · exact if_pos (Option.isSome_iff_ne_none.2 busy)
  · intro stopped a trailers
    have step := exec_flushFirstStep run begun opening idle
    let b : State := { flushAbandoned s with ctb.queue := queuedTrailers s.ctb.queue }
    have flushing : b.exc.flushing = true :=
      (congrArg Exc.flushing (slotsOnly_exc (flushAbandoned_slotsOnly s)) :)
    obtain ⟨frame, queue, memory⟩ := freeSlots_slotsOnly flushing (queuedSlots s.ctb.queue)
    obtain ⟨frame', -, memory'⟩ := flushAbandoned_slotsOnly s
    refine ⟨⟨_, step, ?_, queue, memory.trans memory'⟩, step, fun no_commit => ?_⟩
    · refine frame.trans ?_
      have whole : b = { a with ctb := b.ctb, ple := b.ple } :=
        congrArg (fun u : State => ({ u with ctb := { u.ctb with queue := queuedTrailers s.ctb.queue } } : State)) frame'
      generalize ((queuedSlots s.ctb.queue).foldl State.freeSlot b).ctb = ctb
      generalize ((queuedSlots s.ctb.queue).foldl State.freeSlot b).ple = ple
      rw [whole]
    · have still : flushAbandoned s = a := by
        rw [flushAbandoned, attempt_of_no_commit (s := flushStopped s) no_commit]
        rfl
      rw [step, still, freeSlots_of_no_commit (s := { a with ctb.queue := queuedTrailers s.ctb.queue }) no_commit]
      simp only [mem_queuedSlots]
      rfl

end Sys2Proof.Proofs

/-! ## Proofs: a report against the watches (R106, R149, R150) -/

namespace Sys2Proof.Proofs

open Sys2Proof Sys2Proof.Machine Sys2Proof.Laws

/-! ### A context's watch hits -/

section HitBy

variable (x : Context)

theorem hitBy_zero : x.hitBy 0 = x := by
  unfold Context.hitBy
  split <;> rfl

@[simp] theorem hitBy_isOpen (n : Nat) : (x.hitBy n).isOpen = x.isOpen := by
  unfold Context.hitBy
  split <;> rfl

@[simp] theorem hitBy_fixed (n : Nat) : (x.hitBy n).summary.fixed = x.summary.fixed := by
  unfold Context.hitBy
  split <;> rfl

theorem hitBy_frame (n : Nat) : x.hitBy n = { x with summary := (x.hitBy n).summary } := by
  unfold Context.hitBy
  split <;> rfl

@[simp] theorem hitBy_number (n : Nat) : (x.hitBy n).number = x.number := (congrArg Context.number (hitBy_frame x n) :)

@[simp] theorem hitBy_epoch (n : Nat) : (x.hitBy n).epoch = x.epoch := (congrArg Context.epoch (hitBy_frame x n) :)

@[simp] theorem hitBy_progress (n : Nat) : (x.hitBy n).progress = x.progress :=
  (congrArg Context.progress (hitBy_frame x n) :)

@[simp] theorem hitBy_state (n : Nat) : (x.hitBy n).state = x.state := (congrArg Context.state (hitBy_frame x n) :)

theorem hitBy_of_counted (counted : x.isOpen = true ∧ x.summary.fixed = none) (n : Nat) : x.hitBy n =
    { x with summary := { x.summary with watchHits := raisedBy 4294967295 x.summary.watchHits n } } := if_pos counted

theorem hitBy_of_uncounted (uncounted : ¬(x.isOpen = true ∧ x.summary.fixed = none)) (n : Nat) : x.hitBy n = x :=
  if_neg uncounted

theorem hitBy_add (n m : Nat) : (x.hitBy n).hitBy m = x.hitBy (n + m) := by
  by_cases counted : x.isOpen = true ∧ x.summary.fixed = none
  · have still : (x.hitBy n).isOpen = true ∧ (x.hitBy n).summary.fixed = none := by
      rwa [hitBy_isOpen, hitBy_fixed]
    rw [hitBy_of_counted _ still, hitBy_of_counted x counted, hitBy_of_counted x counted]
    simp only [raisedBy_add]
  · rw [hitBy_of_uncounted x counted, hitBy_of_uncounted x counted, hitBy_of_uncounted x counted]

theorem count_hit : (x.count fun m => { m with watchHits := countUp m.watchHits }) = x.hitBy 1 := by
  unfold Context.count Context.hitBy
  simp only [Bool.and_eq_true, Option.isNone_iff_eq_none]
  rfl

end HitBy

/-! ### Records changed twice -/

theorem setCtx_ctx (x : Exc) (c : Ctx) : x.setCtx c (x.ctx c) = x := by cases c <;> rfl

theorem withSlot_withSlot (s : State) (n : Nat) (f g : Slot → Slot) :
    (s.withSlot n f).withSlot n g = s.withSlot n fun e => g (f e) := by
  simp only [State.withSlot, List.map_map]
  congr 3
  funext e
  simp only [Function.comp_apply]
  split <;> rfl

theorem changeSlot_eq (s : State) (n : Nat) (f : Slot → Slot) : s.changeSlot n f = s.withSlot n f := rfl

/-! ### The watches of a list, one after another -/

/-- The bit of a watch, if it sees something. -/
def bitIf (seen : Bool) (i : Fin 8) : BitVec 8 := if seen = true then BitVec.twoPow 8 i.val else 0#8

/-- The WATCH cause, if it is raised. -/
def watchIf (raised : Bool) : BitVec 9 := if raised = true then 0b1000#9 else 0#9

theorem watchIf_or (a b : Bool) : watchIf a ||| watchIf b = watchIf (a || b) := by cases a <;> cases b <;> rfl

/-- The watch set of those of a list of watches that see something. -/
def bitsOf (ws : Vector Watch 8) (sees : Watch → Bool) : List (Fin 8) → BitVec 8
  | [] => 0#8
  | i :: l => bitIf (sees ws[i]) i ||| bitsOf ws sees l

theorem foldl_bits (ws : Vector Watch 8) (sees : Watch → Bool) (l : List (Fin 8)) (b : BitVec 8) :
    l.foldl (fun a i => if sees ws[i] = true then a ||| BitVec.twoPow 8 i.val else a) b = b ||| bitsOf ws sees l := by
  induction l generalizing b with
  | nil => exact BitVec.or_zero.symm
  | cons i l ih =>
    rw [List.foldl_cons, ih, bitsOf, ← BitVec.or_assoc, bitIf]
    split
    · rfl
    · rw [BitVec.or_zero]

theorem bitsOf_finRange (ws : Vector Watch 8) (sees : Watch → Bool) :
    bitsOf ws sees (List.finRange 8) = watchBits ws sees :=
  ((foldl_bits ws sees _ 0#8).trans BitVec.zero_or).symm

theorem bitsOf_congr {ws ws' : Vector Watch 8} {sees : Watch → Bool} {l : List (Fin 8)}
    (same : ∀ i ∈ l, ws'[i] = ws[i]) : bitsOf ws' sees l = bitsOf ws sees l := by
  induction l with
  | nil => rfl
  | cons i l ih =>
    rw [bitsOf, bitsOf, same i List.mem_cons_self, ih fun j hj => same j (List.mem_cons_of_mem i hj)]

/-- A watch that saw a report, or not. -/
def hitIf (seen : Bool) (h : FirstHit) (w : Watch) : Watch := if seen = true then w.hit h else w

/-- The part after those of a list of watches that see a report were matched. -/
def matchedIn (s : State) (c : Ctx) (n : Nat) (sees : Watch → Bool) (h : FirstHit) (l : List (Fin 8)) : State :=
  State.withSlot { s with
      watches := Vector.ofFn fun i : Fin 8 => hitIf (decide (i ∈ l) && sees s.watches[i]) h s.watches[i]
      att := { s.att with flags := s.att.flags ||| watchIf (l.any fun i => sees s.watches[i] && s.watches[i].first.isNone) }
      exc := s.exc.setCtx c ((s.ctx c).hitBy (l.countP fun i => sees s.watches[i])) }
    n fun e => { e with watchSet := e.watchSet ||| bitsOf s.watches sees l }

theorem matchedIn_nil (s : State) (c : Ctx) (n : Nat) (sees : Watch → Bool) (h : FirstHit) : matchedIn s c n sees h [] = s := by
  have watches : (Vector.ofFn fun i : Fin 8 => hitIf (decide (i ∈ []) && sees s.watches[i]) h s.watches[i]) = s.watches :=
    vector_ext fun i => by simp [hitIf]
  rw [matchedIn, withSlot_self _ n fun e => by simp [bitsOf], watches, List.countP_nil, hitBy_zero, State.ctx, setCtx_ctx]
  simp [watchIf]

/-- One step of a report. -/
def seeWatch (c : Ctx) (n : Nat) (sees : Watch → Bool) (h : FirstHit) (s : State) (w : Fin 8) : State :=
  if sees s.watches[w] = true then s.matchWatch c n h w else s

theorem seeWatch_eq (s : State) (c : Ctx) (n : Nat) (sees : Watch → Bool) (h : FirstHit) (w : Fin 8) :
    seeWatch c n sees h s w = State.withSlot { s with
        watches := s.watches.set w (hitIf (sees s.watches[w]) h s.watches[w])
        att := { s.att with flags := s.att.flags ||| watchIf (sees s.watches[w] && s.watches[w].first.isNone) }
        exc := s.exc.setCtx c ((s.ctx c).hitBy (if sees s.watches[w] = true then 1 else 0)) }
      n fun e => { e with watchSet := e.watchSet ||| bitIf (sees s.watches[w]) w } := by
  rw [seeWatch]
  cases seen : sees s.watches[w] with
  | false =>
    rw [withSlot_self _ n fun e => by simp [bitIf]]
    simp only [Bool.false_eq_true, if_false, hitIf, set_entry_same, Bool.false_and, watchIf, BitVec.or_zero, hitBy_zero,
      State.ctx, setCtx_ctx]
  | true =>
    rw [if_pos rfl, if_pos rfl, ← count_hit, State.matchWatch, Bool.true_and]
    cases s.watches[w].first.isNone
    · simp only [Bool.false_eq_true, if_false, watchIf, BitVec.or_zero]
      rfl
    · rfl

theorem matchedIn_cons (s : State) (c : Ctx) (n : Nat) (sees : Watch → Bool) (h : FirstHit) {w : Fin 8} {l : List (Fin 8)}
    (fresh : w ∉ l) : matchedIn (seeWatch c n sees h s w) c n sees h l = matchedIn s c n sees h (w :: l) := by
  have watches : (seeWatch c n sees h s w).watches = s.watches.set w (hitIf (sees s.watches[w]) h s.watches[w]) := by
    rw [seeWatch_eq]
    rfl
  have other {i : Fin 8} (differs : i ≠ w) : (seeWatch c n sees h s w).watches[i] = s.watches[i] := by
    rw [watches]
    exact set_entry_other _ _ differs
  have same (i : Fin 8) (mem : i ∈ l) : (seeWatch c n sees h s w).watches[i] = s.watches[i] :=
    other fun at_ => fresh (at_ ▸ mem)
  have seen : (Vector.ofFn fun i : Fin 8 => hitIf (decide (i ∈ l) && sees (seeWatch c n sees h s w).watches[i]) h
        (seeWatch c n sees h s w).watches[i]) =
      Vector.ofFn fun i : Fin 8 => hitIf (decide (i ∈ w :: l) && sees s.watches[i]) h s.watches[i] := by
    congr 1
    funext i
    by_cases at_ : i = w
    · subst at_
      rw [watches, set_entry_self]
      simp [fresh, hitIf]
    · rw [other at_]
      simp [at_]
  have raised : (l.any fun i => sees (seeWatch c n sees h s w).watches[i] && (seeWatch c n sees h s w).watches[i].first.isNone) =
      l.any fun i => sees s.watches[i] && s.watches[i].first.isNone := by
    rw [Bool.eq_iff_iff, List.any_eq_true, List.any_eq_true]
    exact exists_congr fun i => and_congr_right fun mem => by rw [same i mem]
  have counted : (l.countP fun i => sees (seeWatch c n sees h s w).watches[i]) = l.countP fun i => sees s.watches[i] :=
    List.countP_congr fun i mem => by rw [same i mem]
  rw [matchedIn, seen, raised, counted, bitsOf_congr same, seeWatch_eq]
  let seen : State := { s with
    watches := Vector.ofFn fun i : Fin 8 => hitIf (decide (i ∈ w :: l) && sees s.watches[i]) h s.watches[i]
    att := { s.att with flags := (s.att.flags ||| watchIf (sees s.watches[w] && s.watches[w].first.isNone)
      ||| watchIf (l.any fun i => sees s.watches[i] && s.watches[i].first.isNone)) }
    exc := (s.exc.setCtx c ((s.ctx c).hitBy (if sees s.watches[w] = true then 1 else 0))).setCtx c
      (((s.exc.setCtx c ((s.ctx c).hitBy (if sees s.watches[w] = true then 1 else 0))).ctx c).hitBy
        (l.countP fun i => sees s.watches[i])) }
  refine (withSlot_withSlot seen n (fun e => { e with watchSet := e.watchSet ||| bitIf (sees s.watches[w]) w })
    fun e => { e with watchSet := e.watchSet ||| bitsOf s.watches sees l }).trans ?_
  rw [matchedIn, List.any_cons, List.countP_cons, bitsOf, ← watchIf_or, Nat.add_comm, ← hitBy_add]
  simp only [seen, BitVec.or_assoc, State.ctx, ctx_setCtx_self, setCtx_setCtx]

theorem foldl_seeWatch (s : State) (c : Ctx) (n : Nat) (sees : Watch → Bool) (h : FirstHit) {l : List (Fin 8)}
    (distinct : l.Nodup) : l.foldl (seeWatch c n sees h) s = matchedIn s c n sees h l := by
  induction l generalizing s with
  | nil => exact (matchedIn_nil s c n sees h).symm
  | cons w l ih =>
    obtain ⟨fresh, distinct⟩ := List.nodup_cons.1 distinct
    exact (ih _ distinct).trans (matchedIn_cons s c n sees h fresh)

/-! ### A whole report -/

theorem hitIf_eq (seen : Bool) (h : FirstHit) (w : Watch) : hitIf seen h w =
    { setting := w.setting, count := raisedBy 65535 w.count (if seen = true then [h] else []).length
      first := w.first.or (if seen = true then [h] else []).head? } := by
  cases seen with
  | false => simp [hitIf, raisedBy]
  | true => cases first : w.first <;> simp [hitIf, Watch.hit, addUpTo, Config.hitMax, raisedBy, first]

theorem countP_finRange {n : Nat} {α : Type} (v : Vector α n) (p : α → Bool) :
    ((List.finRange n).countP fun i => p v[i]) = v.toList.countP p := by
  have list : v.toList = (List.finRange n).map fun i => v[i] :=
    List.ext_getElem (by simp) fun i hi hi' => by simp
  rw [list, List.countP_map]
  rfl

/-- What one report leaves for each watch. -/
def hitsOf (ws : Vector Watch 8) (sees : Watch → Bool) (h : FirstHit) (i : Fin 8) : List FirstHit :=
  if sees ws[i] = true then [h] else []

theorem watchesAfter_hitsOf (ws : Vector Watch 8) (sees : Watch → Bool) (h : FirstHit) :
    (Vector.ofFn fun i : Fin 8 => hitIf (decide (i ∈ List.finRange 8) && sees ws[i]) h ws[i]) =
      watchesAfter ws (hitsOf ws sees h) := by
  refine congrArg Vector.ofFn (funext fun i => ?_)
  rw [hitIf_eq, decide_eq_true (List.mem_finRange i), Bool.true_and]
  rfl

theorem afterHits_hitsOf (a : Att) (ws : Vector Watch 8) (sees : Watch → Bool) (h : FirstHit) :
    a.afterHits ws (hitsOf ws sees h) =
      { a with flags := a.flags ||| watchIf ((List.finRange 8).any fun i => sees ws[i] && ws[i].first.isNone) } := by
  have raises (i : Fin 8) : (ws[i].first.isNone && !(hitsOf ws sees h i).isEmpty) = (sees ws[i] && ws[i].first.isNone) := by
    rw [Bool.and_comm, hitsOf]
    cases sees ws[i] <;> rfl
  rw [Att.afterHits]
  simp only [raises]
  rfl

/-- A report changes what `reportedBy` says (R106, R150). -/
theorem report_eq {test : WatchSetting → Bool} {sees : Watch → Bool} (passes : ∀ w : Watch, w.passes test = sees w)
    (s : State) (c : Ctx) (n : Nat) (h : FirstHit) : s.report test c n h = s.reportedBy c n sees h := by
  have steps : s.report test c n h = (List.finRange 8).foldl (seeWatch c n sees h) s := by
    rw [← funext passes]
    rfl
  rw [steps, foldl_seeWatch s c n sees h (List.nodup_finRange 8), matchedIn, bitsOf_finRange, countP_finRange,
    watchesAfter_hitsOf, ← afterHits_hitsOf s.att s.watches sees h]
  rfl

end Sys2Proof.Proofs

/-! ## Proofs: slots queued one after another (R115, R120, R144) -/

namespace Sys2Proof.Proofs

open Sys2Proof Sys2Proof.Machine Sys2Proof.Laws

/-! ### The parts of a queueing, by the records queued -/

/-- The records of some slots. -/
def recordsOf (t : Table Slot) (ns : List Nat) : List Slot := ns.filterMap t.read

/-- The records of a context. -/
def recordsIn (es : List Slot) (c : Ctx) : List Slot := es.filter fun e => e.ctx == c

/-- The matches of a watch with the records queued. -/
def cellHits (x : Exc) (ws : Vector Watch 8) (k : Completeness) (es : List Slot) (i : Fin 8) : List FirstHit :=
  (es.filter fun e => ws[i].seesCell e k).map fun e => { exposure := (x.ctx e.ctx).number, cell := e.cell, seg := none }

/-- How many watches match a record queued. -/
def cellMatches (ws : Vector Watch 8) (k : Completeness) (e : Slot) : Nat := ws.toList.countP fun w => w.seesCell e k

/-- The part numbers after the records' parts were kept. -/
def partsKept (r : Table Nat) (es : List Slot) : Table Nat :=
  es.foldl (fun r e => r.write (e.cell.cy * 1024 + e.cell.cx) e.part) r

/-- Exposure control after the records' watch matches were counted. -/
def cellsCounted (x : Exc) (ws : Vector Watch 8) (k : Completeness) (es : List Slot) : Exc :=
  { x with
    ctxA := x.ctxA.hitBy ((recordsIn es .A).map (cellMatches ws k)).sum
    ctxB := x.ctxB.hitBy ((recordsIn es .B).map (cellMatches ws k)).sum }

/-- The record of a slot that was queued. -/
def queuedRecord (ws : Vector Watch 8) (k : Completeness) (e : Slot) : Slot :=
  { e with
    state := .queued, completeness := some k, pinned := false
    watchSet := e.watchSet ||| watchBits ws fun w => w.seesCell e k }

theorem queuedBy_eq (s : State) (ns : List Nat) (k : Completeness) :
    let es := recordsOf s.ctb.slots ns
    s.queuedBy ns k = { s with
      watches := watchesAfter s.watches (cellHits s.exc s.watches k es)
      att := s.att.afterHits s.watches (cellHits s.exc s.watches k es)
      exc := cellsCounted s.exc s.watches k es
      ctb := { s.ctb with
        slots := s.ctb.slots.map fun e => (e.1, if e.1 ∈ ns then queuedRecord s.watches k e.2 else e.2)
        touch := s.ctb.touch.filter fun n => decide (n ∉ ns)
        queue := s.ctb.queue ++ ns.map QueueItem.slot
        partsA := partsKept s.ctb.partsA (recordsIn es .A)
        partsB := partsKept s.ctb.partsB (recordsIn es .B) } } := rfl

/-! ### One slot -/

theorem passes_matchesQueued (e : Slot) (k : Completeness) (w : Watch) :
    w.passes (fun g => g.matchesQueued e.cell k) = w.seesCell e k := by
  rw [Watch.passes, Watch.seesCell]
  congr 1
  funext g
  have kind : g.matchesQueued e.cell k =
      (g.overlaps e.cell && g.kind == if k = .complete then .cellDone else .cellPartial) := by
    cases k <;> rfl
  rw [Bool.eq_iff_iff, kind, WatchSetting.overlaps]
  simp only [Bool.and_eq_true, decide_eq_true_eq, beq_iff_eq]
  tauto

theorem recordsOf_cons {t : Table Slot} {n : Nat} {e : Slot} (listed : t.read n = some e) (ns : List Nat) :
    recordsOf t (n :: ns) = e :: recordsOf t ns := List.filterMap_cons_some listed

theorem cellHits_one (x : Exc) (ws : Vector Watch 8) (k : Completeness) (e : Slot) : cellHits x ws k [e] =
    hitsOf ws (fun w => w.seesCell e k) { exposure := (x.ctx e.ctx).number, cell := e.cell, seg := none } := by
  funext i
  rw [cellHits, hitsOf, List.filter_cons]
  split <;> rfl

theorem cellsCounted_one (x : Exc) (ws : Vector Watch 8) (k : Completeness) (e : Slot) :
    cellsCounted x ws k [e] = x.setCtx e.ctx ((x.ctx e.ctx).hitBy (cellMatches ws k e)) := by
  cases at_ : e.ctx <;> simp [cellsCounted, recordsIn, at_, hitBy_zero, Exc.setCtx, Exc.ctx]

theorem setParts_one (t : Ctb) (e : Slot) : t.setParts e.ctx ((t.parts e.ctx).write e.cell.key e.part) = { t with
    partsA := partsKept t.partsA (recordsIn [e] .A), partsB := partsKept t.partsB (recordsIn [e] .B) } := by
  cases at_ : e.ctx <;> simp [recordsIn, at_, partsKept, Ctb.setParts, Ctb.parts, CellIndex.key]

theorem removeTouch_one (touch : List Nat) (n : Nat) : removeTouch touch n = touch.filter fun i => decide (i ∉ [n]) := by
  rw [removeTouch]
  congr 1
  funext i
  simp [bne, ← Bool.beq_eq_decide_eq]

theorem queueSlot_of_none {s : State} {n : Nat} (unlisted : s.ctb.slots.read n = none) (k : Completeness) :
    s.queueSlot n k = s := by
  rw [State.queueSlot, unlisted]

theorem queueSlot_of_read {s : State} {n : Nat} {e : Slot} (listed : s.ctb.slots.read n = some e) (k : Completeness) :
    s.queueSlot n k = State.reportedBy { s with ctb := { s.ctb with
        slots := s.ctb.slots.change n fun t => { t with state := .queued, completeness := some k, pinned := false }
        touch := s.ctb.touch.filter fun i => decide (i ∉ [n])
        queue := s.ctb.queue ++ [.slot n]
        partsA := partsKept s.ctb.partsA (recordsIn [e] .A)
        partsB := partsKept s.ctb.partsB (recordsIn [e] .B) } }
      e.ctx n (fun w => w.seesCell e k) { exposure := (s.ctx e.ctx).number, cell := e.cell, seg := none } := by
  rw [State.queueSlot, listed]
  simp only [report_eq (passes_matchesQueued e k), removeTouch_one]
  rw [← setParts_one { s.ctb with
    slots := s.ctb.slots.change n fun t => { t with state := .queued, completeness := some k, pinned := false }
    touch := s.ctb.touch.filter fun i => decide (i ∉ [n])
    queue := s.ctb.queue ++ [.slot n] }]
  rfl

/-- A slot queued is what `queuedBy` says of it alone. -/
theorem queueSlot_eq {s : State} (wf : s.ctb.slots.wf = true) {n : Nat} {e : Slot} (listed : s.ctb.slots.read n = some e)
    (k : Completeness) : s.queueSlot n k = s.queuedBy [n] k := by
  have slots : ((s.ctb.slots.change n fun t => { t with state := .queued, completeness := some k, pinned := false }).map
        fun e' => (e'.1, if e'.1 = n then
          { e'.2 with watchSet := e'.2.watchSet ||| watchBits s.watches fun w => w.seesCell e k } else e'.2)) =
      s.ctb.slots.map fun e' => (e'.1, if e'.1 ∈ [n] then queuedRecord s.watches k e'.2 else e'.2) := by
    rw [Table.change, List.map_map]
    refine List.map_congr_left fun e' he' => ?_
    simp only [Function.comp_apply, List.mem_singleton]
    split_ifs with at_
    · have same := read_eq_some_of_mem wf he'
      rw [at_, listed, Option.some_inj] at same
      rw [same]
      rfl
    · rfl
  rw [queueSlot_of_read listed, queuedBy_eq, recordsOf_cons listed]
  simp only [recordsOf, List.filterMap_nil, cellHits_one, cellsCounted_one]
  rw [← slots]
  rfl

/-! ### Several slots -/

theorem watchesAfter_append (ws : Vector Watch 8) (hits hits' : Fin 8 → List FirstHit) :
    watchesAfter (watchesAfter ws hits) hits' = watchesAfter ws fun i => hits i ++ hits' i := by
  refine congrArg Vector.ofFn (funext fun i => ?_)
  simp only [watchesAfter, Fin.getElem_fin, Vector.getElem_ofFn, raisedBy_add, List.length_append, List.head?_append,
    Option.or_assoc]

theorem watchesAfter_entry (ws : Vector Watch 8) (hits : Fin 8 → List FirstHit) (i : Fin 8) :
    (watchesAfter ws hits)[i] =
      { setting := ws[i].setting, count := raisedBy 65535 ws[i].count (hits i).length, first := ws[i].first.or (hits i).head? } := by
  simp [watchesAfter]

theorem afterHits_eq (a : Att) (ws : Vector Watch 8) (hits : Fin 8 → List FirstHit) : a.afterHits ws hits =
    { a with flags := a.flags ||| watchIf ((List.finRange 8).any fun i => ws[i].first.isNone && !(hits i).isEmpty) } := rfl

theorem any_or {α : Type} (l : List α) (p q : α → Bool) : (l.any p || l.any q) = l.any fun a => p a || q a := by
  rw [Bool.eq_iff_iff]
  simp only [Bool.or_eq_true, List.any_eq_true, ← exists_or, ← and_or_left]

theorem afterHits_append (a : Att) (ws : Vector Watch 8) (hits hits' : Fin 8 → List FirstHit) :
    (a.afterHits ws hits).afterHits (watchesAfter ws hits) hits' = a.afterHits ws fun i => hits i ++ hits' i := by
  have raised : (((List.finRange 8).any fun i => ws[i].first.isNone && !(hits i).isEmpty) ||
      (List.finRange 8).any fun i => (watchesAfter ws hits)[i].first.isNone && !(hits' i).isEmpty) =
      (List.finRange 8).any fun i => ws[i].first.isNone && !(hits i ++ hits' i).isEmpty := by
    rw [any_or]
    congr 1
    funext i
    rw [watchesAfter_entry]
    cases ws[i].first <;> cases hits i <;> simp
  rw [afterHits_eq, afterHits_eq, afterHits_eq, BitVec.or_assoc, watchIf_or, raised]

theorem seesCell_setting {w w' : Watch} (same : w'.setting = w.setting) (e : Slot) (k : Completeness) :
    w'.seesCell e k = w.seesCell e k := by
  rw [Watch.seesCell, Watch.seesCell, same]

theorem watchesAfter_seesCell (ws : Vector Watch 8) (hits : Fin 8 → List FirstHit) (e : Slot) (k : Completeness) (i : Fin 8) :
    (watchesAfter ws hits)[i].seesCell e k = ws[i].seesCell e k :=
  seesCell_setting (by rw [watchesAfter_entry]) e k

theorem queuedRecord_watchesAfter (ws : Vector Watch 8) (hits : Fin 8 → List FirstHit) (k : Completeness) :
    queuedRecord (watchesAfter ws hits) k = queuedRecord ws k := by
  funext e
  have bits : (watchBits (watchesAfter ws hits) fun w => w.seesCell e k) = watchBits ws fun w => w.seesCell e k := by
    rw [watchBits, watchBits]
    simp only [watchesAfter_seesCell]
  rw [queuedRecord, queuedRecord, bits]

theorem cellMatches_watchesAfter (ws : Vector Watch 8) (hits : Fin 8 → List FirstHit) (k : Completeness) :
    cellMatches (watchesAfter ws hits) k = cellMatches ws k := by
  funext e
  rw [cellMatches, cellMatches, ← countP_finRange, ← countP_finRange]
  simp only [watchesAfter_seesCell]

theorem cellsCounted_ctx (x : Exc) (ws : Vector Watch 8) (k : Completeness) (es : List Slot) (c : Ctx) :
    (cellsCounted x ws k es).ctx c = (x.ctx c).hitBy ((recordsIn es c).map (cellMatches ws k)).sum := by
  cases c <;> rfl

theorem cellHits_counted (x : Exc) (ws : Vector Watch 8) (hits : Fin 8 → List FirstHit) (k : Completeness)
    (es es' : List Slot) : cellHits (cellsCounted x ws k es) (watchesAfter ws hits) k es' = cellHits x ws k es' := by
  funext i
  simp only [cellHits, watchesAfter_seesCell, cellsCounted_ctx, hitBy_number]

theorem cellHits_append (x : Exc) (ws : Vector Watch 8) (k : Completeness) (es es' : List Slot) :
    cellHits x ws k (es ++ es') = fun i => cellHits x ws k es i ++ cellHits x ws k es' i := by
  funext i
  simp only [cellHits, List.filter_append, List.map_append]

theorem recordsIn_append (es es' : List Slot) (c : Ctx) : recordsIn (es ++ es') c = recordsIn es c ++ recordsIn es' c :=
  List.filter_append ..

theorem cellsCounted_append (x : Exc) (ws : Vector Watch 8) (hits : Fin 8 → List FirstHit) (k : Completeness)
    (es es' : List Slot) :
    cellsCounted (cellsCounted x ws k es) (watchesAfter ws hits) k es' = cellsCounted x ws k (es ++ es') := by
  simp only [cellsCounted, cellMatches_watchesAfter, hitBy_add, recordsIn_append, List.map_append, List.sum_append]

theorem partsKept_append (r : Table Nat) (es es' : List Slot) : partsKept (partsKept r es) es' = partsKept r (es ++ es') :=
  (List.foldl_append ..).symm

/-- Slots queued after others are queued together with them. -/
theorem queuedBy_append {s : State} {ns ns' : List Nat} {k : Completeness} (apart : ∀ n ∈ ns', n ∉ ns) :
    (s.queuedBy ns k).queuedBy ns' k = s.queuedBy (ns ++ ns') k := by
  have records : recordsOf (s.queuedBy ns k).ctb.slots ns' = recordsOf s.ctb.slots ns' := by
    refine List.filterMap_congr fun n hn => ?_
    refine (read_map s.ctb.slots (fun i e => if i ∈ ns then queuedRecord s.watches k e else e) n).trans ?_
    simp only [if_neg (apart n hn), Option.map_id_fun', id_eq]
  have together : recordsOf s.ctb.slots (ns ++ ns') = recordsOf s.ctb.slots ns ++ recordsOf s.ctb.slots ns' :=
    List.filterMap_append
  have slots : ((s.ctb.slots.map fun e => (e.1, if e.1 ∈ ns then queuedRecord s.watches k e.2 else e.2)).map
        fun e => (e.1, if e.1 ∈ ns' then queuedRecord s.watches k e.2 else e.2)) =
      s.ctb.slots.map fun e => (e.1, if e.1 ∈ ns ++ ns' then queuedRecord s.watches k e.2 else e.2) := by
    rw [List.map_map]
    refine List.map_congr_left fun e _ => ?_
    simp only [Function.comp_apply, List.mem_append]
    by_cases later : e.1 ∈ ns'
    · simp [later, apart _ later]
    · simp [later]
  have touch : ((s.ctb.touch.filter fun n => decide (n ∉ ns)).filter fun n => decide (n ∉ ns')) =
      s.ctb.touch.filter fun n => decide (n ∉ ns ++ ns') := by
    rw [List.filter_filter]
    congr 1
    funext n
    rw [← Bool.decide_and]
    simp [and_comm]
  rw [queuedBy_eq (s.queuedBy ns k), records, queuedBy_eq s (ns ++ ns'), together, recordsIn_append, recordsIn_append,
    ← partsKept_append, ← partsKept_append, ← slots, ← touch, List.map_append, ← List.append_assoc]
  rw [queuedBy_eq s ns]
  simp only [cellHits_counted, watchesAfter_append, afterHits_append, cellsCounted_append, cellHits_append,
    queuedRecord_watchesAfter]

theorem queuedBy_nil (s : State) (k : Completeness) : s.queuedBy [] k = s := by
  have watches : watchesAfter s.watches (fun _ => []) = s.watches := vector_ext fun i => by
    rw [watchesAfter_entry]
    simp [raisedBy]
  have att : s.att.afterHits s.watches (fun _ => []) = s.att := by
    rw [afterHits_eq]
    simp [watchIf]
  have exc : cellsCounted s.exc s.watches k [] = s.exc := by simp [cellsCounted, recordsIn, hitBy_zero]
  have hits : cellHits s.exc s.watches k [] = fun _ => [] := rfl
  rw [queuedBy_eq, show recordsOf s.ctb.slots [] = [] from rfl, hits, watches, att, exc]
  simp [recordsIn, partsKept]

theorem queuedBy_slots (s : State) (ns : List Nat) (k : Completeness) : (s.queuedBy ns k).ctb.slots =
    s.ctb.slots.map fun e => (e.1, if e.1 ∈ ns then queuedRecord s.watches k e.2 else e.2) := rfl

theorem queuedBy_wf {s : State} (wf : s.ctb.slots.wf = true) (ns : List Nat) (k : Completeness) :
    (s.queuedBy ns k).ctb.slots.wf = true := table_wf_map s.ctb.slots _ wf

theorem queuedBy_read (s : State) (ns : List Nat) (k : Completeness) (n : Nat) : (s.queuedBy ns k).ctb.slots.read n =
    (s.ctb.slots.read n).map fun e => if n ∈ ns then queuedRecord s.watches k e else e :=
  read_map s.ctb.slots (fun i e => if i ∈ ns then queuedRecord s.watches k e else e) n

theorem queuedBy_read_other {s : State} {ns : List Nat} (k : Completeness) {n : Nat} (h : n ∉ ns) :
    (s.queuedBy ns k).ctb.slots.read n = s.ctb.slots.read n := by
  rw [queuedBy_read]
  simp only [if_neg h, Option.map_id_fun', id_eq]

/-- Listed slots queued one after another are what `queuedBy` says of them. -/
theorem queueSlots_eq {s : State} (wf : s.ctb.slots.wf = true) {ns : List Nat} (distinct : ns.Nodup)
    (listed : ∀ n ∈ ns, s.ctb.slots.read n ≠ none) (k : Completeness) :
    ns.foldl (fun s n => s.queueSlot n k) s = s.queuedBy ns k := by
  induction ns generalizing s with
  | nil => exact (queuedBy_nil s k).symm
  | cons n ns ih =>
    obtain ⟨fresh, distinct⟩ := List.nodup_cons.1 distinct
    obtain ⟨e, read⟩ := Option.ne_none_iff_exists'.1 (listed n List.mem_cons_self)
    have apart (m : Nat) (hm : m ∈ ns) : m ∉ [n] := fun at_ => fresh (List.mem_singleton.1 at_ ▸ hm)
    have rest (m : Nat) (hm : m ∈ ns) : (s.queuedBy [n] k).ctb.slots.read m ≠ none := by
      rw [queuedBy_read_other k (apart m hm)]
      exact listed m (List.mem_cons_of_mem n hm)
    rw [List.foldl_cons, queueSlot_eq wf read, ih (queuedBy_wf wf [n] k) distinct rest, queuedBy_append apart]
    rfl

end Sys2Proof.Proofs

/-! ## Proofs: the victims of a spill (R124, R125) -/

namespace Sys2Proof.Proofs

open Sys2Proof Sys2Proof.Machine Sys2Proof.Laws

/-! ### The order the victims are chosen in -/

/-- A candidate of a context (R124). -/
def candidateOf (c : Ctx) (e : Slot) : Bool := e.state == .opened && !e.pinned && e.part != 65535 && e.ctx == c

theorem ctx_of_candidateOf {c : Ctx} {e : Slot} (h : candidateOf c e = true) : e.ctx = c := by
  simp only [candidateOf, Bool.and_eq_true, beq_iff_eq] at h
  exact h.2

theorem otherCtx_ne (c : Ctx) : otherCtx c ≠ c := by cases c <;> decide

theorem spillOrder_eq (s : State) : s.spillOrder =
    s.ctb.touched (candidateOf s.exc.elder) ++ s.ctb.touched (candidateOf (otherCtx s.exc.elder)) := by
  have elder : s.exc.elder =
      if s.exc.ctxA.isOpen = true ∧ (s.exc.ctxB.isOpen = true → s.exc.ctxA.epoch ≤ s.exc.ctxB.epoch) then .A else .B := by
    rw [Exc.elder]
    cases s.exc.ctxA.isOpen <;> cases s.exc.ctxB.isOpen <;> simp
  rw [State.spillOrder, ← elder]
  rfl

theorem candidate_eq (t : Ctb) (c : Ctx) : t.candidate c = (t.touched (candidateOf c)).head? :=
  (List.head?_filter ..).symm

theorem victim_eq (s : State) : s.victim = s.spillOrder.head? := by
  rw [State.victim, spillOrder_eq, candidate_eq, candidate_eq, List.head?_append]
  cases (s.ctb.touched (candidateOf s.exc.elder)).head? <;> rfl

theorem mem_touched {t : Ctb} {test : Slot → Bool} {n : Nat} :
    n ∈ t.touched test ↔ n ∈ t.touch ∧ ∃ e, t.slots.read n = some e ∧ test e = true := by
  rw [Ctb.touched, List.mem_filter, Option.any_eq_true]

theorem touched_nodup {t : Ctb} (distinct : t.touch.Nodup) (test : Slot → Bool) : (t.touched test).Nodup :=
  distinct.filter _

theorem read_of_touched {t : Ctb} {test : Slot → Bool} {n : Nat} (h : n ∈ t.touched test) : t.slots.read n ≠ none := by
  obtain ⟨-, e, read, -⟩ := mem_touched.1 h
  rw [read]
  exact Option.some_ne_none e

theorem spillOrder_nodup {s : State} (distinct : s.ctb.touch.Nodup) : s.spillOrder.Nodup := by
  rw [spillOrder_eq]
  refine (touched_nodup distinct _).append (touched_nodup distinct _) fun n elder other => ?_
  obtain ⟨-, e, read, test⟩ := mem_touched.1 elder
  obtain ⟨-, e', read', test'⟩ := mem_touched.1 other
  obtain rfl : e = e' := Option.some_inj.1 (read.symm.trans read')
  exact otherCtx_ne _ ((ctx_of_candidateOf test').symm.trans (ctx_of_candidateOf test))

theorem read_of_spillOrder {s : State} {n : Nat} (h : n ∈ s.spillOrder) : s.ctb.slots.read n ≠ none := by
  rw [spillOrder_eq, List.mem_append] at h
  exact h.elim read_of_touched read_of_touched

theorem touched_queuedBy (s : State) (ns : List Nat) (k : Completeness) (test : Slot → Bool) :
    (s.queuedBy ns k).ctb.touched test = (s.ctb.touched test).filter fun n => decide (n ∉ ns) := by
  rw [Ctb.touched, Ctb.touched, queuedBy_eq]
  simp only
  rw [List.filter_filter, List.filter_filter]
  refine List.filter_congr fun n _ => ?_
  by_cases out : n ∈ ns
  · simp [out]
  · rw [read_map s.ctb.slots (fun i e => if i ∈ ns then queuedRecord s.watches k e else e) n]
    simp [out]

theorem elder_queuedBy (s : State) (ns : List Nat) (k : Completeness) : (s.queuedBy ns k).exc.elder = s.exc.elder := by
  rw [queuedBy_eq]
  simp only [Exc.elder, cellsCounted, hitBy_isOpen, hitBy_epoch]

theorem spillOrder_queuedBy (s : State) (ns : List Nat) (k : Completeness) :
    (s.queuedBy ns k).spillOrder = s.spillOrder.filter fun n => decide (n ∉ ns) := by
  rw [spillOrder_eq, spillOrder_eq, elder_queuedBy, touched_queuedBy, touched_queuedBy, List.filter_append]

/-! ### Victims one after another -/

/-- The part after some slots were queued as victims. -/
def spilled (s : State) (ns : List Nat) : State :=
  ((s.queuedBy ns .forced).raise .spill).changeCommit fun k => { k with victims := k.victims ++ ns }

theorem spilledBy_of_none {s : State} {lack : Nat} (h : s.spillOrder.take lack = []) : s.spilledBy lack = s := by
  rw [State.spilledBy, h]
  simp [queuedBy_nil]

theorem spilledBy_of_some {s : State} {lack : Nat} (h : s.spillOrder.take lack ≠ []) :
    s.spilledBy lack = spilled s (s.spillOrder.take lack) := by
  rw [State.spilledBy]
  simp only [if_neg h]
  rfl

theorem queuedBy_spilled (s : State) (ns ns' : List Nat) : (spilled s ns).queuedBy ns' .forced =
    (((s.queuedBy ns .forced).queuedBy ns' .forced).raise .spill).changeCommit fun k =>
      { k with victims := k.victims ++ ns } := by
  have att (a : Att) (ws : Vector Watch 8) (hits : Fin 8 → List FirstHit) :
      (a.raise .spill).afterHits ws hits = (a.afterHits ws hits).raise .spill := by
    rw [afterHits_eq, afterHits_eq]
    simp only [Att.raise, BitVec.or_assoc, BitVec.or_comm (watchIf _)]
  rw [queuedBy_eq, queuedBy_eq (s.queuedBy ns .forced)]
  simp only [State.raise, State.changeCommit, spilled, att]

theorem raise_raise (a : Att) (c : Cause) : (a.raise c).raise c = a.raise c := by
  simp only [Att.raise, BitVec.or_assoc, BitVec.or_self]

theorem spilled_append {s : State} {ns ns' : List Nat} (apart : ∀ n ∈ ns', n ∉ ns) :
    spilled (spilled s ns) ns' = spilled s (ns ++ ns') := by
  rw [spilled, queuedBy_spilled, queuedBy_append apart, spilled]
  simp only [State.raise, State.changeCommit, raise_raise, Option.map_map]
  congr 3
  funext k
  simp only [Function.comp_apply, List.append_assoc]

/-- With SPILL already raised, no victim more leaves the part as it is. -/
theorem spilledBy_of_raised {s : State} (raised : s.att.raise .spill = s.att) (lack : Nat) :
    s.spilledBy lack = spilled s (s.spillOrder.take lack) := by
  by_cases more : s.spillOrder.take lack = []
  · rw [spilledBy_of_none more, more, spilled, queuedBy_nil, State.raise, raised]
    simp [State.changeCommit]
  · exact spilledBy_of_some more

/-- A spill queues the first victims of the order (R124, R125). -/
theorem spill_eq {s : State} (wf : s.ctb.slots.wf = true) (distinct : s.ctb.touch.Nodup) (lack : Nat) :
    State.spill lack s = s.spilledBy lack := by
  induction lack generalizing s with
  | zero => exact (spilledBy_of_none List.take_zero).symm
  | succ m ih =>
    rw [State.spill, victim_eq]
    cases order : s.spillOrder with
    | nil => exact (spilledBy_of_none (s := s) (lack := m + 1) (by rw [order]; rfl)).symm
    | cons n rest =>
      obtain ⟨e, read⟩ := Option.ne_none_iff_exists'.1 (read_of_spillOrder (order ▸ List.mem_cons_self : n ∈ s.spillOrder))
      have fresh : n ∉ rest := (List.nodup_cons.1 (order ▸ spillOrder_nodup distinct)).1
      have after : (spilled s [n]).spillOrder = rest := by
        refine (spillOrder_queuedBy s [n] .forced).trans ?_
        rw [order, List.filter_cons_of_neg (by simp)]
        refine List.filter_eq_self.2 fun i hi => decide_eq_true fun at_ => ?_
        exact fresh (List.mem_singleton.1 at_ ▸ hi)
      have all : s.spillOrder.take (m + 1) = [n] ++ rest.take m := by rw [order]; rfl
      have apart (i : Nat) (hi : i ∈ rest.take m) : i ∉ [n] := fun at_ =>
        fresh (List.mem_singleton.1 at_ ▸ List.mem_of_mem_take hi)
      calc State.spill m (((s.queueSlot n .forced).raise .spill).changeCommit fun k => { k with victims := k.victims ++ [n] })
          = State.spill m (spilled s [n]) := by rw [queueSlot_eq wf read]; rfl
        _ = (spilled s [n]).spilledBy m := ih (queuedBy_wf wf [n] .forced) (distinct.filter _)
        _ = spilled (spilled s [n]) (rest.take m) := by
          rw [spilledBy_of_raised (raise_raise _ _), after]
        _ = s.spilledBy (m + 1) := by
          rw [spilled_append apart, ← all, spilledBy_of_some (by rw [all]; simp)]

end Sys2Proof.Proofs

/-! ## Proofs: openings and attempts (R114 to R117, R123) -/

namespace Sys2Proof.Proofs

open Sys2Proof Sys2Proof.Machine Sys2Proof.Laws

/-! ### A cell's contributors, pixel by pixel (R116, R117) -/

theorem rowReaches_eq (v : Version) (cell : CellIndex) (row : Nat) :
    v.rowReaches cell row = (List.range v.cols).any fun col => v.pixelCell row col == some cell := by
  rw [Bool.eq_iff_iff, rowReaches_iff, List.any_eq_true]
  simp only [List.mem_range, beq_iff_eq]

theorem qualifying_eq (s : State) (c : Ctx) (cell : CellIndex) : s.qualifying c cell = s.contributorsOf c cell := by
  rw [State.qualifying, State.contributorsOf]
  congr 1
  funext r
  rw [State.contributor]
  cases s.resolved c r.seg with
  | none => simp
  | some v =>
    simp only [Option.bind_some, Version.rowRange, ← rowReaches_eq]
    generalize (List.range v.rows).filter (v.rowReaches cell) = rows
    cases rows.head? <;> cases rows.getLast? <;> cases r.withdrawn <;> rfl

/-- An opening makes the record that `openedBy` says. -/
theorem openCell_eq {s : State} {k : Commit} (commit : s.ple.commit = some k) (cell : CellIndex) (n : Nat) :
    s.openCell k.ctx cell n = s.openedBy k cell n := by
  have ple : ({ s.ple with commit := s.ple.commit.map fun k => { k with opening := some n } } : Ple) =
      { s.ple with commit := some { k with opening := some n } } := by rw [commit]; rfl
  rw [State.openedBy, ← qualifying_eq]
  exact congrArg (fun p => ({ s with
    ctb := { s.ctb with slots := s.ctb.slots.write n (s.newSlot k.ctx cell), touch := s.ctb.touch ++ [n] }
    ple := p } : State)) ple

theorem openMissing_eq {s : State} {k : Commit} (commit : s.ple.commit = some k) (cell : CellIndex) (rest : List CellIndex)
    (n : Nat) : s.openMissing k cell rest n = s.openedBy { k with missing := rest } cell n := by
  rw [State.openMissing, openCell_eq commit]
  rfl

/-! ### Attempts -/

/-- A slot given to a waiting row. -/
def givenSlot (k : Commit) (cell : CellIndex) (rest : List CellIndex) (u : State) (n : Nat) : State :=
  if k.opening = none then u.openedBy { k with missing := rest } cell n else u

theorem giveFree_eq {s : State} {k : Commit} (commit : s.ple.commit = some k) (cell : CellIndex) (rest : List CellIndex)
    (n : Nat) : s.giveFree k cell rest n = givenSlot k cell rest s n := by
  rw [State.giveFree, openMissing_eq commit]
  rfl

theorem droppable_eq (t : Ctb) : t.droppable = (t.touched fun e => e.state == .opened && !e.pinned).head? :=
  (List.head?_filter ..).symm

theorem dropSlot_eq (s : State) (n : Nat) : s.dropSlot n = s.droppedBy [n] := by
  have slots : s.ctb.slots.remove n = s.ctb.slots.filter fun e => decide (e.1 ∉ [n]) := by
    rw [Table.remove]
    congr 1
    funext e
    simp [bne, ← Bool.beq_eq_decide_eq]
  rw [State.dropSlot, slots, removeTouch_one]
  rfl

section Attempt

variable {s : State} {k : Commit}

theorem attempt_of_other_phase (h : ∀ k, s.ple.commit = some k → k.phase ≠ .wait) : s.attempt = s := by
  rw [State.attempt]
  split
  · rfl
  · exact if_neg (h _ ‹_›)

variable (commit : s.ple.commit = some k) (waits : k.phase = .wait)

include commit waits

theorem attempt_of_nothing_missing (none_ : k.missing = []) : s.attempt = if k.opening = none
    then { s with ple := { s.ple with commit := some { k with phase := .place, col := 0, victims := [] } } } else s := by
  have placed : s.changeCommit (fun m => { m with phase := .place, col := 0, victims := [] }) =
      { s with ple := { s.ple with commit := some { k with phase := .place, col := 0, victims := [] } } } := by
    rw [State.changeCommit, commit]
    rfl
  rw [State.attempt, commit]
  simp only [waits, none_, if_true, placed]

variable {cell : CellIndex} {rest : List CellIndex} (missing : k.missing = cell :: rest)

include missing

theorem attempt_of_free (wf : s.ctb.slots.wf = true) {n : Nat} (free : s.ctb.isLowestFree n) :
    s.attempt = givenSlot k cell rest s n := by
  rw [State.attempt, commit]
  simp only [waits, missing, if_true, (isLowestFree_iff wf n).2 free]
  exact giveFree_eq commit cell rest n

theorem attempt_of_full (wf : s.ctb.slots.wf = true) (full : ∀ n < 2048, s.ctb.slots.read n ≠ none) :
    s.attempt = s.giveMore k cell rest := by
  have taken : s.ctb.lowestFree = none := (lowest_eq_none wf).2 full
  rw [State.attempt, commit]
  simp only [waits, missing, if_true, taken]

theorem attempt_of_full_flush (wf : s.ctb.slots.wf = true) (full : ∀ n < 2048, s.ctb.slots.read n ≠ none)
    (flushing : s.exc.flushing = true) :
    ((s.ctb.touched fun e => e.state == .opened && !e.pinned) = [] → s.attempt = s) ∧
    ∀ n, (s.ctb.touched fun e => e.state == .opened && !e.pinned).head? = some n →
      s.attempt = givenSlot k cell rest (s.droppedBy [n]) n := by
  rw [attempt_of_full commit waits missing wf full, State.giveMore, if_pos flushing, droppable_eq]
  refine ⟨fun none_ => ?_, fun n head => ?_⟩
  · rw [none_]
    rfl
  · rw [head, ← dropSlot_eq]
    exact giveFree_eq (s := s.dropSlot n) commit cell rest n

theorem attempt_of_full_no_spill (wf : s.ctb.slots.wf = true) (full : ∀ n < 2048, s.ctb.slots.read n ≠ none)
    (unflushed : s.exc.flushing = false) (off : s.params.spill = false) : s.attempt = s := by
  rw [attempt_of_full commit waits missing wf full, State.giveMore, if_neg (by rw [unflushed]; decide),
    if_neg (by rw [off]; decide)]

theorem attempt_of_full_spill (wf : s.ctb.slots.wf = true) (full : ∀ n < 2048, s.ctb.slots.read n ≠ none)
    (unflushed : s.exc.flushing = false) (on : s.params.spill = true) (distinct : s.ctb.touch.Nodup) :
    s.attempt = s.spilledBy (k.missing.length - k.victims.length) := by
  rw [attempt_of_full commit waits missing wf full, State.giveMore, if_neg (by rw [unflushed]; decide), if_pos on,
    spill_eq wf distinct]

end Attempt

end Sys2Proof.Proofs

/-! ## Proofs: a row asks for its cells (R102, R114, R122) -/

namespace Sys2Proof.Proofs

open Sys2Proof Sys2Proof.Machine Sys2Proof.Laws

/-! ### Pins -/

/-- The part with the slots of some cells pinned. -/
def pinnedFor (s : State) (c : Ctx) (cells : List CellIndex) : State :=
  { s with ctb := { s.ctb with slots := s.ctb.slots.map fun e =>
    (e.1, if ∃ cell ∈ cells, s.ctb.index c cell = some e.1 then { e.2 with pinned := true } else e.2) } }

theorem index_map (t : Ctb) (g : Nat × Slot → Slot)
    (same : ∀ e, (g e).state = e.2.state ∧ (g e).ctx = e.2.ctx ∧ (g e).cell = e.2.cell) (c : Ctx) (cell : CellIndex) : Ctb.index { t with slots := t.slots.map fun e => (e.1, g e) } c cell = t.index c cell := by
  simp only [Ctb.index, List.find?_map, Option.map_map, Function.comp_def, same]

theorem index_pinnedFor (s : State) (c d : Ctx) (cells : List CellIndex) (cell : CellIndex) :
    (pinnedFor s c cells).ctb.index d cell = s.ctb.index d cell :=
  index_map s.ctb _ (fun e => by split <;> exact ⟨rfl, rfl, rfl⟩) d cell

theorem pinnedFor_wf {s : State} (wf : s.ctb.slots.wf = true) (c : Ctx) (cells : List CellIndex) :
    (pinnedFor s c cells).ctb.slots.wf = true := table_wf_map s.ctb.slots _ wf

theorem pinnedFor_read (s : State) (c : Ctx) (cells : List CellIndex) (n : Nat) :
    (pinnedFor s c cells).ctb.slots.read n = none ↔ s.ctb.slots.read n = none := by
  refine Iff.trans (Eq.congr_left (read_map s.ctb.slots
    (fun i e => if ∃ cell ∈ cells, s.ctb.index c cell = some i then { e with pinned := true } else e) n)) ?_
  exact Option.map_eq_none_iff

theorem pinnedFor_nil (s : State) (c : Ctx) : pinnedFor s c [] = s := by simp [pinnedFor]

theorem pin_eq {s : State} {c : Ctx} {cell : CellIndex} {n : Nat} (found : s.ctb.index c cell = some n) :
    s.pin n = pinnedFor s c [cell] := by
  have here (i : Nat) : (∃ d ∈ [cell], s.ctb.index c d = some i) ↔ i = n := by
    simp [found, eq_comm]
  rw [State.pin, changeSlot_eq, State.withSlot, pinnedFor]
  simp only [here]

theorem pinnedFor_append (s : State) (c : Ctx) (cells cells' : List CellIndex) :
    pinnedFor (pinnedFor s c cells) c cells' = pinnedFor s c (cells ++ cells') := by
  have slots : (pinnedFor (pinnedFor s c cells) c cells').ctb.slots = (pinnedFor s c (cells ++ cells')).ctb.slots := by
    simp only [pinnedFor, List.map_map]
    refine List.map_congr_left fun e _ => ?_
    have index (d : CellIndex) := index_pinnedFor s c c cells d
    simp only [pinnedFor] at index
    simp only [Function.comp_apply, index, List.mem_append, or_and_right, exists_or]
    by_cases early : ∃ d ∈ cells, s.ctb.index c d = some e.1 <;> by_cases late : ∃ d ∈ cells', s.ctb.index c d = some e.1 <;>
      simp only [early, late, or_true, true_or, or_self, if_true, if_false]
  exact congrArg (fun t => ({ s with ctb := { s.ctb with slots := t } } : State)) slots

theorem pinnedFor_of_lacking {s : State} {c : Ctx} {cell : CellIndex} (lacking : s.ctb.index c cell = none)
    (cells : List CellIndex) : pinnedFor s c (cell :: cells) = pinnedFor s c cells := by
  simp [pinnedFor, lacking]

/-! ### Asking -/

/-- The part with another commit. -/
def withCommit (s : State) (k : Commit) : State := { s with ple := { s.ple with commit := some k } }

theorem withCommit_self {s : State} {k : Commit} (commit : s.ple.commit = some k) : withCommit s k = s := by
  rw [withCommit, ← commit]

theorem changeCommit_eq {s : State} {k : Commit} (commit : s.ple.commit = some k) (f : Commit → Commit) :
    s.changeCommit f = withCommit s (f k) := by
  rw [State.changeCommit, commit]
  rfl

section Ask

variable {s : State} {k : Commit} (commit : s.ple.commit = some k)

include commit

theorem ask_of_found {cell : CellIndex} {n : Nat} (found : s.ctb.index k.ctx cell = some n) (rest : List CellIndex) :
    State.ask (cell :: rest) s = State.ask rest (pinnedFor s k.ctx [cell]) := by
  rw [State.ask, commit]
  simp only [found, pin_eq found]

theorem ask_of_free {cell : CellIndex} {n : Nat} (lacking : s.ctb.index k.ctx cell = none)
    (free : s.ctb.lowestFree = some n) (rest : List CellIndex) :
    State.ask (cell :: rest) s = s.openedBy { k with toAsk := rest } cell n := by
  rw [State.ask, commit]
  simp only [lacking, free, openCell_eq commit]
  rfl

theorem ask_of_full {cell : CellIndex} (lacking : s.ctb.index k.ctx cell = none) (full : s.ctb.lowestFree = none)
    (rest : List CellIndex) :
    State.ask (cell :: rest) s = State.ask rest (withCommit s { k with missing := k.missing ++ [cell] }) := by
  rw [State.ask, commit]
  simp only [lacking, full, changeCommit_eq commit]

theorem reserved_eq : s.reserved =
    if k.missing = [] then withCommit s { k with phase := .place, col := 0 }
    else (withCommit s { k with phase := .wait, victims := [] }).attempt := by
  rw [State.reserved, commit]
  simp only [changeCommit_eq commit]

end Ask

theorem ask_after_found {s : State} {k : Commit} (commit : s.ple.commit = some k) {before : List CellIndex}
    (found : ∀ b ∈ before, (s.ctb.index k.ctx b).isSome = true) (rest : List CellIndex) :
    State.ask (before ++ rest) s = State.ask rest (pinnedFor s k.ctx before) := by
  induction before generalizing s with
  | nil => rw [pinnedFor_nil]; rfl
  | cons b before ih =>
    obtain ⟨n, index⟩ := Option.isSome_iff_exists.1 (found b List.mem_cons_self)
    have later (b' : CellIndex) (hb : b' ∈ before) : ((pinnedFor s k.ctx [b]).ctb.index k.ctx b').isSome = true := by
      rw [index_pinnedFor]
      exact found b' (List.mem_cons_of_mem b hb)
    rw [List.cons_append, ask_of_found commit index, ih (s := pinnedFor s k.ctx [b]) commit later, pinnedFor_append]
    rfl

/-- With every cell found, or no slot FREE, the asking ends. -/
theorem ask_to_end {s : State} {k : Commit} (commit : s.ple.commit = some k) {cells : List CellIndex}
    (ends : (∀ cell ∈ cells, (s.ctb.index k.ctx cell).isSome = true) ∨ s.ctb.lowestFree = none) (wf : s.ctb.slots.wf = true) :
    State.ask cells s = State.reserved (withCommit (pinnedFor s k.ctx cells)
      { k with missing := k.missing ++ cells.filter fun cell => !(s.ctb.index k.ctx cell).isSome }) := by
  induction cells generalizing s k with
  | nil =>
    rw [pinnedFor_nil, List.filter_nil, List.append_nil, withCommit_self commit]
    rfl
  | cons cell cells ih =>
    have pinned_full (h : s.ctb.lowestFree = none) : (pinnedFor s k.ctx [cell]).ctb.lowestFree = none := by
      refine (lowest_eq_none (pinnedFor_wf wf k.ctx [cell])).2 fun n hn unlisted => ?_
      exact (lowest_eq_none wf).1 h n hn ((pinnedFor_read s k.ctx [cell] n).1 unlisted)
    cases index : s.ctb.index k.ctx cell with
    | some n =>
      have ends' : (∀ d ∈ cells, ((pinnedFor s k.ctx [cell]).ctb.index k.ctx d).isSome = true) ∨
          (pinnedFor s k.ctx [cell]).ctb.lowestFree = none := by
        simp only [index_pinnedFor]
        exact ends.imp (fun all d hd => all d (List.mem_cons_of_mem cell hd)) pinned_full
      rw [ask_of_found commit index, ih (s := pinnedFor s k.ctx [cell]) commit ends' (pinnedFor_wf wf k.ctx [cell])]
      simp only [index_pinnedFor, pinnedFor_append]
      rw [List.filter_cons_of_neg (by simp [index])]
      rfl
    | none =>
      have full : s.ctb.lowestFree = none := ends.resolve_left fun all => by
        have found := all cell List.mem_cons_self
        rw [index] at found
        nomatch found
      rw [ask_of_full commit index full, ih (s := withCommit s { k with missing := k.missing ++ [cell] })
        (k := { k with missing := k.missing ++ [cell] }) rfl (.inr full) wf, pinnedFor_of_lacking index,
        List.filter_cons_of_pos (by rw [index]; rfl)]
      simp only [List.append_assoc, List.singleton_append]
      rfl

theorem reserved_withCommit (s : State) (k : Commit) : (withCommit s k).reserved =
    if k.missing = [] then withCommit s { k with phase := .place, col := 0 }
    else (withCommit s { k with phase := .wait, victims := [] }).attempt := reserved_eq (s := withCommit s k) rfl

/-- What asking for cells leaves. -/
theorem ask_askedFor {s : State} {k : Commit} (commit : s.ple.commit = some k) (wf : s.ctb.slots.wf = true)
    (cells : List CellIndex) : s.askedFor k cells (State.ask cells s) := by
  refine ⟨fun before cell after n split found lacking lowest => ?_, fun ends => ?_⟩
  · have index : s.ctb.index k.ctx cell = none := Option.isSome_eq_false_iff.1 lacking |> Option.isNone_iff_eq_none.1
    have free : (pinnedFor s k.ctx before).ctb.lowestFree = some n := by
      refine (isLowestFree_iff (pinnedFor_wf wf k.ctx before) n).2 ⟨lowest.1, ?_, fun j hj unlisted => ?_⟩
      · exact (pinnedFor_read ..).2 lowest.2.1
      · exact lowest.2.2 j hj ((pinnedFor_read ..).1 unlisted)
    rw [split, ask_after_found commit found]
    exact ask_of_free (s := pinnedFor s k.ctx before) commit ((index_pinnedFor ..).trans index) free after
  · intro u
    have ends' := ends.imp_right fun full => (lowest_eq_none wf (limit := 2048)).2 full
    rw [ask_to_end commit ends' wf, reserved_withCommit]
    by_cases none_ : k.missing ++ cells.filter (fun cell => !(s.ctb.index k.ctx cell).isSome) = []
    · have same : k.missing ++ cells.filter (fun cell => !(s.ctb.index k.ctx cell).isSome) = k.missing :=
        none_.trans (List.append_eq_nil_iff.1 none_).1.symm
      rw [if_pos none_, if_pos none_]
      exact congrArg (fun m => withCommit u { k with missing := m, phase := .place, col := 0 }) same
    · rw [if_neg none_, if_neg none_]
      rfl

end Sys2Proof.Proofs

/-! ## Proofs: a row's reservation and its openings (R102, R112, R114, R123) -/

namespace Sys2Proof.Proofs

open Sys2Proof Sys2Proof.Machine Sys2Proof.Laws

/-! ### Clearing a slot's memory -/

theorem read_filter_key {α : Type} (t : Table α) (p : Nat → Bool) (n : Nat) :
    Table.read (t.filter fun e => p e.1) n = if p n = true then Table.read t n else none := by
  induction t with
  | nil => simp [Table.read]
  | cons e t ih =>
    by_cases keeps : p e.1 = true
    · rw [List.filter_cons_of_pos (p := fun e : Nat × α => p e.1) (a := e) keeps]
      simp only [Table.read, ih]
      by_cases here : e.1 = n
      · rw [if_pos here, if_pos here, if_pos (here ▸ keeps)]
      · rw [if_neg here, if_neg here]
    · rw [List.filter_cons_of_neg (p := fun e : Nat × α => p e.1) (a := e) keeps, ih]
      split_ifs with asked
      · exact (if_neg fun here : e.1 = n => keeps (here ▸ asked)).symm
      · rfl

theorem memory_read_cleared (m : Memory) (n a : Nat) : Memory.read (Memory.clearSlot m n) a =
    if a / 4096 = n then { sum := 0, weight := 0, damaged := false } else Memory.read m a := by
  rw [Memory.read, Memory.clearSlot, read_filter_key m (fun i => i / 4096 != n) a]
  by_cases here : a / 4096 = n
  · rw [if_pos here, if_neg (by simp [here])]
    rfl
  · rw [if_neg here, if_pos (by simp [here])]
    rfl

/-! ### The cells a row touches -/

section TouchedCells

variable (v : Version) (row : Nat)

theorem touchedCells_succ (cols : Nat) : v.touchedCells row (cols + 1) =
    match v.pixelCell row cols with
    | none => v.touchedCells row cols
    | some cell => if cell ∈ v.touchedCells row cols then v.touchedCells row cols
        else v.touchedCells row cols ++ [cell] := by
  rw [Version.touchedCells, List.range_succ, List.filterMap_append, List.foldl_append]
  cases at_ : v.pixelCell row cols with
  | none => simp [at_, Version.touchedCells]
  | some cell =>
    simp only [List.filterMap_cons_some at_, List.filterMap_nil, List.foldl_cons, List.foldl_nil]
    rfl

/-- One column more touches no new cell, or one new one, its own. -/
theorem touchedCells_step (cols : Nat) :
    (v.touchedCells row (cols + 1) = v.touchedCells row cols ∧
      ∀ cell, v.pixelCell row cols = some cell → cell ∈ v.touchedCells row cols) ∨
    ∃ cell, v.pixelCell row cols = some cell ∧ cell ∉ v.touchedCells row cols ∧
      v.touchedCells row (cols + 1) = v.touchedCells row cols ++ [cell] := by
  rw [touchedCells_succ]
  cases at_ : v.pixelCell row cols with
  | none => exact .inl ⟨rfl, fun cell h => nomatch h⟩
  | some cell =>
    by_cases known : cell ∈ v.touchedCells row cols
    · exact .inl ⟨if_pos known, fun d hd => Option.some_inj.1 hd ▸ known⟩
    · exact .inr ⟨cell, rfl, known, if_neg known⟩

theorem mem_touchedCells (cols : Nat) (cell : CellIndex) :
    cell ∈ v.touchedCells row cols ↔ ∃ c < cols, v.pixelCell row c = some cell := by
  induction cols with
  | zero => simp [Version.touchedCells]
  | succ cols ih =>
    have last : (∃ c < cols + 1, v.pixelCell row c = some cell) ↔
        (∃ c < cols, v.pixelCell row c = some cell) ∨ v.pixelCell row cols = some cell := by
      simp only [Nat.lt_succ_iff_lt_or_eq, or_and_right, exists_or, exists_eq_left]
    rw [last, ← ih]
    rcases touchedCells_step v row cols with ⟨same, known⟩ | ⟨d, here, fresh, more⟩
    · rw [same]
      exact ⟨.inl, fun h => h.elim id (known cell)⟩
    · rw [more, List.mem_append, List.mem_singleton, here, Option.some_inj]
      exact or_congr_right eq_comm

theorem touchedCells_nodup (cols : Nat) : (v.touchedCells row cols).Nodup := by
  induction cols with
  | zero => exact List.nodup_nil
  | succ cols ih =>
    rcases touchedCells_step v row cols with ⟨same, -⟩ | ⟨d, -, fresh, more⟩
    · rw [same]
      exact ih
    · rw [more]
      exact List.nodup_append.2 ⟨ih, List.nodup_singleton d, fun a ha b hb => by
        rw [List.mem_singleton.1 hb]
        rintro rfl
        exact fresh ha⟩

/-- The cells stand in the order the row first reaches them. -/
theorem touchedCells_pairwise (cols : Nat) : (v.touchedCells row cols).Pairwise fun a b =>
    ∃ c < cols, v.pixelCell row c = some a ∧ ∀ c' ≤ c, v.pixelCell row c' ≠ some b := by
  induction cols with
  | zero => exact List.Pairwise.nil
  | succ cols ih =>
    have ih := ih.imp fun {a b} (h : ∃ c < cols, v.pixelCell row c = some a ∧ ∀ c' ≤ c, v.pixelCell row c' ≠ some b) =>
      show ∃ c < cols + 1, v.pixelCell row c = some a ∧ ∀ c' ≤ c, v.pixelCell row c' ≠ some b from
        h.imp fun c hc => ⟨Nat.lt_succ_of_lt hc.1, hc.2⟩
    rcases touchedCells_step v row cols with ⟨same, -⟩ | ⟨d, -, fresh, more⟩
    · rw [same]
      exact ih
    · rw [more]
      refine List.pairwise_append.2 ⟨ih, List.pairwise_singleton _ d, fun a ha b hb => ?_⟩
      obtain rfl := List.mem_singleton.1 hb
      obtain ⟨c, before, at_⟩ := (mem_touchedCells v row cols a).1 ha
      exact ⟨c, Nat.lt_succ_of_lt before, at_, fun c' le reach =>
        fresh ((mem_touchedCells v row cols b).2 ⟨c', Nat.lt_of_le_of_lt le before, reach⟩)⟩

end TouchedCells

theorem touchedBy_of_resolved {s : State} {k : Commit} {v : Version} (resolved : s.resolved k.ctx k.seg = some v) :
    s.touchedBy k = v.touchedCells k.row k.cols := by
  rw [State.touchedBy, resolved]

/-! ### Opening complete -/

theorem exec_cellOpeningComplete {s : State} {k : Commit} {n : Nat} (commit : s.ple.commit = some k)
    (opening : k.opening = some n) :
    let u := withCommit { s with ctb := { s.ctb with memory := Memory.clearSlot s.ctb.memory n } } { k with opening := none }
    exec .cellOpeningComplete s = .next (if k.phase = .reserve then State.ask k.toAsk u else u.attempt).takeHead := by
  intro u
  have done : s.openingDone k n = if k.phase = .reserve then State.ask k.toAsk u else u.attempt := by
    rw [State.openingDone, changeCommit_eq (s := { s with ctb.memory := Memory.clearSlot s.ctb.memory n }) commit]
  rw [show exec .cellOpeningComplete s = execCellOpeningComplete s from rfl, execCellOpeningComplete, commit]
  simp only [opening, done]

theorem touch_nodup_of {s : State} (ok : s.slotsConsistent) : s.ctb.touch.Nodup :=
  ((slotsConsistent_iff s).1 ok).2.touch_nodup

/-- Settles O45: the memory and the asking, then the attempt by its cases. -/
theorem cellOpeningClearsItsMemory : Obligations.CellOpeningClearsItsMemory := by
  refine ⟨fun s k n commit opening wf => ⟨Memory.clearSlot s.ctb.memory n, memory_read_cleared s.ctb.memory n, ?_⟩,
    fun s wf => ⟨attempt_of_other_phase, fun k commit waits => ⟨attempt_of_nothing_missing commit waits, ?_⟩⟩⟩
  · intro done u
    have step := exec_cellOpeningComplete commit opening
    refine ⟨fun reserve => ⟨_, ask_askedFor (s := u) (k := done) rfl wf k.toAsk, ?_⟩, fun other => ?_⟩
    · rw [step, if_pos reserve]
      rfl
    · rw [step, if_neg other]
      rfl
  · intro cell rest missing given
    refine ⟨fun n free => attempt_of_free commit waits missing wf free, fun full => ⟨fun flushing =>
      attempt_of_full_flush commit waits missing wf full flushing, attempt_of_full_no_spill commit waits missing wf full,
      fun unflushed on ok => attempt_of_full_spill commit waits missing wf full unflushed on (touch_nodup_of ok)⟩⟩

/-! ### Row reserve -/

theorem exec_rowReserve {s : State} {k : Commit} (commit : s.ple.commit = some k) (reserve : k.phase = .reserve)
    (idle : k.opening = none) : exec .rowReserve s = .next (State.ask (s.touchedBy k)
      (withCommit s { k with touched := s.touchedBy k, toAsk := [], missing := [] })).takeHead := by
  rw [show exec .rowReserve s = execRowReserve s from rfl, execRowReserve, commit]
  simp only [reserve, idle, and_self, if_true, changeCommit_eq commit]

/-- Settles O44. -/
theorem rowReserveFindsOrOpensTouchedCells : Obligations.RowReserveFindsOrOpensTouchedCells := by
  intro s k v commit reserve idle resolved wf cells asked
  have cells_eq : cells = v.touchedCells k.row k.cols := touchedBy_of_resolved resolved
  have step := exec_rowReserve commit reserve idle
  refine ⟨fun cell => cells_eq ▸ mem_touchedCells v k.row k.cols cell, cells_eq ▸ touchedCells_nodup v k.row k.cols,
    cells_eq ▸ touchedCells_pairwise v k.row k.cols, ⟨_, ask_askedFor (s := withCommit s asked) rfl wf cells, step⟩,
    fun full lack unflushed ok => ?_⟩
  intro lacking waiting
  have lacking_eq : (cells.filter fun cell => !(s.ctb.index k.ctx cell).isSome) = lacking := by
    refine List.filter_congr fun cell _ => ?_
    cases s.ctb.index k.ctx cell <;> rfl
  have some_lack : lacking ≠ [] := by
    obtain ⟨cell, mem, none_⟩ := lack
    exact List.ne_nil_of_mem (List.mem_filter.2 ⟨mem, by rw [none_]; rfl⟩)
  have ended : State.ask cells (withCommit s asked) = waiting.attempt := by
    rw [ask_to_end (s := withCommit s asked) (k := asked) rfl (.inr ((lowest_eq_none wf (limit := 2048)).2 full)) wf,
      reserved_withCommit]
    refine (if_neg ?_).trans ?_
    · exact fun none_ => some_lack (lacking_eq ▸ none_)
    · exact congrArg (fun m => State.attempt (withCommit (pinnedFor s k.ctx cells)
        { asked with phase := .wait, missing := m, victims := [] })) lacking_eq
  obtain ⟨cell, rest, split⟩ := List.exists_cons_of_ne_nil some_lack
  have still (n : Nat) (hn : n < 2048) : waiting.ctb.slots.read n ≠ none := fun unlisted =>
    full n hn ((pinnedFor_read s k.ctx cells n).1 unlisted)
  have distinct : waiting.ctb.touch.Nodup := touch_nodup_of (s := s) ok
  have wf' : waiting.ctb.slots.wf = true := pinnedFor_wf wf k.ctx cells
  refine step.trans (congrArg (fun t => Host.Outcome.next (State.takeHead t)) (ended.trans ?_))
  split_ifs with on
  · exact attempt_of_full_spill (s := waiting) rfl rfl split wf' still unflushed on distinct
  · exact attempt_of_full_no_spill (s := waiting) rfl rfl split wf' still unflushed (Bool.eq_false_iff.2 on)

end Sys2Proof.Proofs

/-! ## Proofs: SET PARAMETER (R170, R171) -/

namespace Sys2Proof.Proofs

open Sys2Proof Sys2Proof.Machine Sys2Proof.Laws

/-! ### Ranges -/

theorem inRange_of {lo hi v : Nat} (h : lo ≤ v ∧ v ≤ hi) : inRange lo hi v = some v := if_pos h

theorem inRange_eq_none {lo hi v : Nat} (h : v < lo ∨ hi < v) : inRange lo hi v = none := if_neg (by omega)

theorem boolValue_of {v : Nat} (h : v ≤ 1) : boolValue v = some (v == 1) := by
  interval_cases v <;> rfl

theorem boolValue_eq_none {v : Nat} (h : 1 < v) : boolValue v = none := by
  rw [boolValue, if_neg (by omega), if_neg (by omega)]

theorem write_eq_none (g : Params) {code v : Nat} (h : (code = 1 ∧ (v < 100 ∨ 60000 < v)) ∨ (code = 2 ∧ (v < 1 ∨ 1000 < v)) ∨
    (code = 3 ∧ 15 < v) ∨ (4 ≤ code ∧ code ≤ 7 ∧ 1 < v) ∨ (code = 8 ∧ 65535 < v) ∨ (code = 9 ∧ 15 < v) ∨
    (code = 10 ∧ 15 < v)) : g.write code v = none := by
  rcases h with ⟨rfl, h⟩ | ⟨rfl, h⟩ | ⟨rfl, h⟩ | ⟨lo, hi, h⟩ | ⟨rfl, h⟩ | ⟨rfl, h⟩ | ⟨rfl, h⟩
  · exact Option.map_eq_none_iff.2 (inRange_eq_none h)
  · exact Option.map_eq_none_iff.2 (inRange_eq_none h)
  · exact Option.map_eq_none_iff.2 (inRange_eq_none (.inr h))
  · interval_cases code <;> exact Option.map_eq_none_iff.2 (boolValue_eq_none h)
  · exact Option.map_eq_none_iff.2 (inRange_eq_none (.inr h))
  · exact Option.map_eq_none_iff.2 (inRange_eq_none (.inr h))
  · exact Option.map_eq_none_iff.2 (inRange_eq_none (.inr h))

/-! ### Attempts pass over the command port -/

/-- The part with another command port. -/
def withCmd (s : State) (m : Cmd) : State := { s with cmd := m }

theorem queueSlot_withCmd (s : State) (m : Cmd) (n : Nat) (k : Completeness) :
    (withCmd s m).queueSlot n k = withCmd (s.queueSlot n k) m := by
  cases read : s.ctb.slots.read n with
  | none => rw [queueSlot_of_none read, queueSlot_of_none (s := withCmd s m) read]
  | some e =>
    rw [queueSlot_of_read read, queueSlot_of_read (s := withCmd s m) read]
    rfl

theorem spill_withCmd (s : State) (m : Cmd) (lack : Nat) :
    State.spill lack (withCmd s m) = withCmd (State.spill lack s) m := by
  induction lack generalizing s with
  | zero => rfl
  | succ lack ih =>
    rw [State.spill, State.spill, show (withCmd s m).victim = s.victim from rfl]
    cases s.victim with
    | none => rfl
    | some n =>
      simp only [queueSlot_withCmd]
      exact ih (((s.queueSlot n .forced).raise .spill).changeCommit _)

theorem giveFree_withCmd (s : State) (m : Cmd) (k : Commit) (cell : CellIndex) (rest : List CellIndex) (n : Nat) :
    (withCmd s m).giveFree k cell rest n = withCmd (s.giveFree k cell rest n) m := by
  rw [State.giveFree, State.giveFree]
  split <;> rfl

theorem giveMore_withCmd (s : State) (m : Cmd) (k : Commit) (cell : CellIndex) (rest : List CellIndex) :
    (withCmd s m).giveMore k cell rest = withCmd (s.giveMore k cell rest) m := by
  rw [State.giveMore, State.giveMore, show (withCmd s m).exc = s.exc from rfl, show (withCmd s m).ctb = s.ctb from rfl,
    show (withCmd s m).params = s.params from rfl]
  split
  · cases s.ctb.droppable with
    | none => rfl
    | some n => exact giveFree_withCmd (s.dropSlot n) m k cell rest n
  · split
    · exact spill_withCmd s m _
    · rfl

theorem attempt_withCmd (s : State) (m : Cmd) : (withCmd s m).attempt = withCmd s.attempt m := by
  rw [State.attempt, State.attempt, show (withCmd s m).ple = s.ple from rfl, show (withCmd s m).ctb = s.ctb from rfl]
  cases s.ple.commit with
  | none => rfl
  | some k =>
    simp only
    split
    · cases k.missing with
      | nil => simp only; split <;> rfl
      | cons cell rest =>
        cases s.ctb.lowestFree with
        | none => exact giveMore_withCmd s m k cell rest
        | some n => exact giveFree_withCmd s m k cell rest n
    · rfl

theorem attempt_place (s : State) (tag : Byte) (a : Answer) : s.attempt.place tag a = (s.place tag a).attempt := by
  have cmd : s.attempt.cmd = s.cmd := by simp
  have placed (t : State) : t.place tag a = withCmd t (t.place tag a).cmd := rfl
  rw [placed s, attempt_withCmd, placed s.attempt, place_cmd, place_cmd, cmd]

/-! ### A write of LINK_ENABLE -/

/-- A port that follows its bit of LINK_ENABLE (R71, R171). -/
def portFollowed (enable : Bool) (q : Port) : Port :=
  if (q.up && !enable) = true then q.wentDown
  else if q.up = false ∧ q.sync = true ∧ enable = true then { q with up := true, receive := .awaiting }
  else q

/-- LINK_FAULT, if it is raised. -/
def linkFaultIf (raised : Bool) : BitVec 9 := if raised = true then 0b1000000#9 else 0#9

theorem linkFaultIf_or (a b : Bool) : linkFaultIf a ||| linkFaultIf b = linkFaultIf (a || b) := by
  cases a <;> cases b <;> rfl

/-- The part after the ports of a list followed LINK_ENABLE. -/
def linksFollowed (s : State) (enable : Fin 4 → Bool) (l : List (Fin 4)) : State :=
  let leaves (p : Fin 4) : Bool := s.ports[p].up && !enable p
  { s with
    ports := Vector.ofFn fun p : Fin 4 => if p ∈ l then portFollowed (enable p) s.ports[p] else s.ports[p]
    cat := s.cat.unmarked fun m => decide (m.port ∈ l) && (leaves m.port &&
      (s.ports[m.port].buffers[m.buffer].abandonable?).isSome)
    att := { s.att with flags := s.att.flags ||| linkFaultIf (l.any leaves) } }

theorem linksFollowed_nil (s : State) (enable : Fin 4 → Bool) : linksFollowed s enable [] = s := by
  have ports : (Vector.ofFn fun p : Fin 4 => if p ∈ [] then portFollowed (enable p) s.ports[p] else s.ports[p]) = s.ports :=
    vector_ext fun p => by simp
  rw [linksFollowed]
  simp only [ports]
  rw [unmarked_of_none (fun m => by simp)]
  simp [linkFaultIf]

theorem followed_of_leaves {enable : Bool} {q : Port} (h : (q.up && !enable) = true) : portFollowed enable q = q.wentDown :=
  if_pos h

theorem followed_of_stays {enable : Bool} {q : Port} (h : (q.up && !enable) = false) : portFollowed enable q =
    if q.up = false ∧ q.sync = true ∧ enable = true then { q with up := true, receive := .awaiting } else q :=
  if_neg (by rw [h]; decide)

theorem followLink_of_leaves {s : State} {p : Fin 4} (h : (s.ports[p].up && !(s.params.linkEnable.getLsbD p.val)) = true) :
    s.followLink p = { s with
      ports := s.ports.set p s.ports[p].wentDown
      cat := s.cat.unmarked fun m => m.port == p && (s.ports[p].buffers[m.buffer].abandonable?).isSome
      att := { s.att with flags := s.att.flags ||| 0b1000000#9 } } := by
  obtain ⟨up, out⟩ := Bool.and_eq_true_iff.1 h
  rw [State.followLink, if_pos ⟨up, Bool.not_eq_true' _ ▸ out⟩, goDown_eq]

theorem followLink_of_stays {s : State} {p : Fin 4} (h : (s.ports[p].up && !(s.params.linkEnable.getLsbD p.val)) = false) :
    s.followLink p = { s with ports := s.ports.set p (portFollowed (s.params.linkEnable.getLsbD p.val) s.ports[p]) } := by
  have stays : ¬((s.port p).up = true ∧ s.params.linkEnable.getLsbD p.val = false) := fun ⟨up, out⟩ => by
    rw [show s.ports[p].up = true from up, out] at h
    nomatch h
  rw [State.followLink, if_neg stays, followed_of_stays h, State.tryUp]
  by_cases comes : s.ports[p].up = false ∧ s.ports[p].sync = true ∧ s.params.linkEnable.getLsbD p.val = true
  · rw [if_pos comes]
    exact if_pos comes
  · rw [if_neg comes, set_entry_same]
    exact if_neg comes

theorem ofFn_one {α : Type} (v : Vector α 4) (f : Fin 4 → α → α) (p : Fin 4) :
    (Vector.ofFn fun i : Fin 4 => if i ∈ [p] then f i v[i] else v[i]) = v.set p (f p v[p]) := by
  refine vector_ext fun i => ?_
  by_cases here : i = p
  · subst here
    rw [set_entry_self]
    simp
  · rw [set_entry_other v _ here]
    simp [here]

theorem linksFollowed_one (s : State) (enable : Fin 4 → Bool) (p : Fin 4) : linksFollowed s enable [p] = { s with
    ports := s.ports.set p (portFollowed (enable p) s.ports[p])
    cat := s.cat.unmarked fun m => m.port == p && ((s.ports[p].up && !enable p) &&
      (s.ports[p].buffers[m.buffer].abandonable?).isSome)
    att := { s.att with flags := s.att.flags ||| linkFaultIf (s.ports[p].up && !enable p) } } := by
  have marked : (fun m : Marker => decide (m.port ∈ [p]) && ((s.ports[m.port].up && !enable m.port) &&
        (s.ports[m.port].buffers[m.buffer].abandonable?).isSome)) =
      fun m : Marker => m.port == p && ((s.ports[p].up && !enable p) &&
        (s.ports[p].buffers[m.buffer].abandonable?).isSome) := by
    funext m
    by_cases here : m.port = p
    · simp [here]
    · simp [here]
  rw [linksFollowed]
  simp only [marked, ofFn_one s.ports (fun i => portFollowed (enable i)) p, List.any_cons, List.any_nil, Bool.or_false]

theorem followLink_eq (s : State) (p : Fin 4) :
    s.followLink p = linksFollowed s (fun p => s.params.linkEnable.getLsbD p.val) [p] := by
  rw [linksFollowed_one]
  cases leaves : s.ports[p].up && !(s.params.linkEnable.getLsbD p.val) with
  | true =>
    rw [followLink_of_leaves leaves, followed_of_leaves leaves]
    rfl
  | false =>
    rw [followLink_of_stays leaves, unmarked_of_none (fun m => by simp)]
    simp [linkFaultIf]

theorem linksFollowed_cons (s : State) (enable : Fin 4 → Bool) {p : Fin 4} {l : List (Fin 4)} (fresh : p ∉ l) :
    linksFollowed (linksFollowed s enable [p]) enable l = linksFollowed s enable (p :: l) := by
  have ports : (linksFollowed s enable [p]).ports = s.ports.set p (portFollowed (enable p) s.ports[p]) := by
    rw [linksFollowed_one]
  have same {i : Fin 4} (h : i ≠ p) : (linksFollowed s enable [p]).ports[i] = s.ports[i] := by
    rw [ports]
    exact set_entry_other _ _ h
  have apart {i : Fin 4} (mem : i ∈ l) : i ≠ p := fun at_ => fresh (at_ ▸ mem)
  have all : (Vector.ofFn fun i : Fin 4 => if i ∈ l then portFollowed (enable i) (linksFollowed s enable [p]).ports[i]
        else (linksFollowed s enable [p]).ports[i]) =
      Vector.ofFn fun i : Fin 4 => if i ∈ p :: l then portFollowed (enable i) s.ports[i] else s.ports[i] := by
    refine congrArg Vector.ofFn (funext fun i => ?_)
    by_cases here : i = p
    · subst here
      rw [if_neg fresh, if_pos List.mem_cons_self, ports, set_entry_self]
    · simp only [same here, List.mem_cons, here, false_or]
  have marked : (fun m : Marker => decide (m.port ∈ l) && (((linksFollowed s enable [p]).ports[m.port].up && !enable m.port) &&
        ((linksFollowed s enable [p]).ports[m.port].buffers[m.buffer].abandonable?).isSome)) =
      fun m : Marker => decide (m.port ∈ l) && ((s.ports[m.port].up && !enable m.port) &&
        (s.ports[m.port].buffers[m.buffer].abandonable?).isSome) := by
    funext m
    by_cases mem : m.port ∈ l
    · rw [same (apart mem)]
    · simp [mem]
  have raised : (l.any fun i => (linksFollowed s enable [p]).ports[i].up && !enable i) =
      l.any fun i => s.ports[i].up && !enable i := by
    rw [Bool.eq_iff_iff, List.any_eq_true, List.any_eq_true]
    exact exists_congr fun i => and_congr_right fun mem => by rw [same (apart mem)]
  have both (m : Marker) (b : Bool) : (decide (m.port ∈ [p]) && b || decide (m.port ∈ l) && b) =
      (decide (m.port ∈ p :: l) && b) := by
    rw [← Bool.and_or_distrib_right, ← Bool.decide_or]
    simp only [List.mem_cons, List.not_mem_nil, or_false]
  rw [linksFollowed]
  simp only [all, marked, raised]
  simp only [linksFollowed, unmarked_unmarked, both, BitVec.or_assoc, linkFaultIf_or, List.any_cons, List.any_nil,
    Bool.or_false]

theorem followLinks_eq (s : State) {l : List (Fin 4)} (distinct : l.Nodup) :
    l.foldl State.followLink s = linksFollowed s (fun p => s.params.linkEnable.getLsbD p.val) l := by
  induction l generalizing s with
  | nil => exact (linksFollowed_nil s _).symm
  | cons p l ih =>
    obtain ⟨fresh, distinct⟩ := List.nodup_cons.1 distinct
    rw [List.foldl_cons, ih (s.followLink p) distinct, ← linksFollowed_cons s _ fresh, ← followLink_eq]
    rw [followLink_eq]
    rfl

end Sys2Proof.Proofs

/-! ## Proofs: SET PARAMETER, code by code (R170, R171) -/

namespace Sys2Proof.Proofs

open Sys2Proof Sys2Proof.Machine Sys2Proof.Laws

section Writes

variable {s : State} {f : Frame}

theorem setParameter_of_bad_code (h : f.nat 0 1 = 0 ∨ 10 < f.nat 0 1) : State.setParameter f s = (s, .invalid 48) :=
  if_pos (by omega)

theorem setParameter_of_write (low : 1 ≤ f.nat 0 1) (high : f.nat 0 1 ≤ 10) : State.setParameter f s =
    match s.params.write (f.nat 0 1) (f.nat 1 4) with
    | none => (s, .invalid 49)
    | some g => (State.afterWrite { s with params := g } (f.nat 0 1), .ok) := by
  refine (if_neg (by omega)).trans ?_
  cases s.params.write (f.nat 0 1) (f.nat 1 4) <;> rfl

theorem setParameter_of_some {code : Nat} {g : Params} (low : 1 ≤ code) (high : code ≤ 10) (named : f.nat 0 1 = code)
    (written : s.params.write code (f.nat 1 4) = some g) :
    State.setParameter f s = (State.afterWrite { s with params := g } code, .ok) := by
  rw [setParameter_of_write (by omega) (by omega), named, written]

theorem setParameter_of_none {code : Nat} (low : 1 ≤ code) (high : code ≤ 10) (named : f.nat 0 1 = code)
    (refused : s.params.write code (f.nat 1 4) = none) : State.setParameter f s = (s, .invalid 49) := by
  rw [setParameter_of_write (by omega) (by omega), named, refused]

variable (ready : s.part = .ready) (length : f.payload.length = 5)

include ready length

theorem exec_setParameter {t : State} {a : Answer} (ho : State.setParameter f (ownerView s f) = (t, a)) :
    exec (.setParameter f) s = .next (t.place f.tag a) :=
  congrArg Host.Outcome.next (request_places ready ((fits_iff f 5).2 length) ho)

/-- A write in range: the parameter and its further effects, then the reply. -/
theorem exec_setParameter_written {code : Nat} {g : Params} (low : 1 ≤ code) (high : code ≤ 10) (named : f.nat 0 1 = code)
    (written : s.params.write code (f.nat 1 4) = some g) : exec (.setParameter f) s =
      .next ((State.afterWrite { ownerView s f with params := g } code).place f.tag .ok) :=
  exec_setParameter ready length (setParameter_of_some (s := ownerView s f) low high named written)

end Writes

/-- The part answered OK with new parameters. -/
def writtenOk (s : State) (f : Frame) (g : Params) : State := { s.answered f .ok [] with params := g }

theorem place_params (s : State) (f : Frame) (g : Params) :
    State.place { ownerView s f with params := g } f.tag .ok = writtenOk s f g := rfl

theorem afterWrite_spill (s : State) (f : Frame) (g : Params) :
    (State.afterWrite { ownerView s f with params := g } 4).place f.tag .ok = (writtenOk s f g).attempt.takeHead := by
  rw [← place_params, ← attempt_place, ← takeHead_place]
  rfl

theorem linkEnable_bit (v : Nat) (p : Fin 4) : (BitVec.ofNat 4 v).getLsbD p.val = v.testBit p.val := by
  rw [BitVec.getLsbD_ofNat, decide_eq_true p.isLt, Bool.true_and]

theorem afterWrite_links (s : State) (f : Frame) (v : Nat) :
    (State.afterWrite { ownerView s f with params := { s.params with linkEnable := BitVec.ofNat 4 v } } 9).place f.tag .ok =
      linksFollowed (writtenOk s f { s.params with linkEnable := BitVec.ofNat 4 v }) (fun p => v.testBit p.val)
        (List.finRange 4) := by
  have followed := followLinks_eq
    { ownerView s f with params := { s.params with linkEnable := BitVec.ofNat 4 v } } (List.nodup_finRange 4)
  simp only [linkEnable_bit] at followed
  exact congrArg (fun t => State.place t f.tag .ok) followed

/-- All four ports follow. -/
theorem linksFollowed_all (s : State) (enable : Fin 4 → Bool) :
    let leaves (p : Fin 4) : Bool := s.ports[p].up && !enable p
    linksFollowed s enable (List.finRange 4) = { s with
      ports := Vector.ofFn fun p : Fin 4 =>
        let q := s.ports[p]
        if leaves p = true then q.wentDown
        else if q.up = false ∧ q.sync = true ∧ enable p = true then { q with up := true, receive := .awaiting }
        else q
      cat := s.cat.unmarked fun m => leaves m.port && (s.ports[m.port].buffers[m.buffer].abandonable?).isSome
      att := { s.att with flags := s.att.flags ||| if ((List.finRange 4).any leaves) = true then 0b1000000#9 else 0 } } := by
  intro leaves
  rw [linksFollowed]
  simp only [List.mem_finRange, if_true, decide_true, Bool.true_and]
  rfl

/-- Settles O10: the code, the range, and the further effects of the codes 4, 6 and 9. -/
theorem setParameterWritesValuesInRange : Obligations.SetParameterWritesValuesInRange := by
  intro s f ready length code v run okWith
  have written {n : Nat} {g : Params} (low : 1 ≤ n) (high : n ≤ 10) (named : code = n)
      (h : s.params.write n v = some g) := exec_setParameter_written ready length low high named h
  have ranged {lo hi : Nat} {set : Nat → Params} (h : lo ≤ v ∧ v ≤ hi) : (inRange lo hi v).map set = some (set v) := by
    rw [inRange_of h]
    rfl
  have flagged {set : Bool → Params} (h : v ≤ 1) : (boolValue v).map set = some (set (v == 1)) := by
    rw [boolValue_of h]
    rfl
  refine ⟨fun bad => exec_setParameter ready length (setParameter_of_bad_code bad), fun bad => ?_,
    fun named h => written (by decide) (by decide) named (ranged h),
    fun named h => written (by decide) (by decide) named (ranged h),
    fun named h => written (by decide) (by decide) named (ranged ⟨Nat.zero_le v, h⟩), fun named h => ?_,
    fun named h => written (by decide) (by decide) named (flagged h), fun named h => ?_, fun named h => ?_,
    fun named h => ?_, fun named h => written (by decide) (by decide) named (ranged ⟨Nat.zero_le v, h⟩),
    fun named h => ?_, fun named h => written (by decide) (by decide) named (ranged ⟨Nat.zero_le v, h⟩)⟩
  · have low : 1 ≤ code ∧ code ≤ 10 := by omega
    exact exec_setParameter ready length
      (setParameter_of_none (s := ownerView s f) low.1 low.2 rfl (write_eq_none s.params bad))
  · intro w
    have step : run = .next w.attempt.takeHead :=
      (written (by decide) (by decide) named (flagged h)).trans (congrArg _ (afterWrite_spill s f _))
    refine ⟨step, fun elsewhere => ?_, fun k commit waits lacking full unflushed ok => ?_⟩
    · rw [step, attempt_of_other_phase (s := w) elsewhere]
    · obtain ⟨cell, rest, split⟩ := List.exists_cons_of_ne_nil lacking
      have wf : w.ctb.slots.wf = true := ok.1
      rw [step]
      split_ifs with on
      · rw [attempt_of_full_spill (s := w) commit waits split wf full unflushed (beq_iff_eq.2 on)
          (touch_nodup_of (s := s) ok)]
      · rw [attempt_of_full_no_spill (s := w) commit waits split wf full unflushed (beq_eq_false_iff_ne.2 on)]
  · exact written (by decide) (by decide) named (flagged (by omega)) |>.trans (by rw [h]; rfl)
  · exact written (by decide) (by decide) named (flagged (by omega)) |>.trans (by rw [h]; rfl)
  · refine (written (by decide) (by decide) named (flagged h)).trans ?_
    have sense : (if (v == 1) = true then Sense.falling else .rising) = if v = 1 then .falling else .rising := by simp
    exact congrArg (fun e => Host.Outcome.next (okWith { s.params with shutterSense := e })) sense
  · intro leaves
    refine (written (by decide) (by decide) named (ranged ⟨Nat.zero_le v, h⟩)).trans ?_
    exact congrArg Host.Outcome.next ((afterWrite_links s f v).trans (linksFollowed_all _ _))

end Sys2Proof.Proofs

/-! ## Proofs: the outcome of a pixel (R94 to R101, R106, R107) -/

namespace Sys2Proof.Proofs

open Sys2Proof Sys2Proof.Machine Sys2Proof.Laws

/-! ### Which watches see a pixel -/

theorem passes_matchesSaturated (xy : Nat × Nat) (w : Watch) :
    w.passes (fun g => g.matchesSaturated xy.1 xy.2) = w.seesSaturated xy := by
  rw [Watch.passes, Watch.seesSaturated]
  congr 1
  funext g
  rw [Bool.eq_iff_iff, WatchSetting.matchesSaturated, WatchSetting.regionHolds]
  simp only [Bool.and_eq_true, decide_eq_true_eq, beq_iff_eq, and_assoc]

theorem passes_matchesAccepted (xy : Nat × Nat) (seg : Nat) (x : Int) (w : Watch) :
    w.passes (fun g => g.matchesAccepted xy.1 xy.2 seg x) = w.seesAccepted xy seg x := by
  rw [Watch.passes, Watch.seesAccepted]
  congr 1
  funext g
  have kind : g.matchesAccepted xy.1 xy.2 seg x = (g.regionHolds xy.1 xy.2 &&
      decide (g.kind = .covered ∨ (g.kind = .peakAbove ∧ g.threshold < x) ∨
        (g.kind = .segment ∧ g.threshold = (seg : Int)))) := by
    rw [WatchSetting.matchesAccepted]
    cases g.kind <;> simp [Bool.beq_eq_decide_eq]
  rw [Bool.eq_iff_iff, kind, WatchSetting.regionHolds]
  simp only [Bool.and_eq_true, decide_eq_true_eq, and_assoc]

/-! ### The outcomes -/

/-- The part with a weighted value added to the record at an address. -/
def accumulated (s : State) (a weight : Nat) (x : Int) : State :=
  let r := Memory.read s.ctb.memory a
  { s with ctb := { s.ctb with
    memory := Memory.write s.ctb.memory a { r with sum := r.sum + weight * x, weight := r.weight + weight } } }

section Outcomes

variable {s : State} {k : Commit} (open_ : (s.ctx k.ctx).isOpen = true) (running : (s.ctx k.ctx).summary.fixed = none)

include open_ running

theorem placeDefect_eq (slot : Option Nat) : s.placeDefect k slot =
    let t := s.withSummary k.ctx fun m => { m with defect := countUp m.defect }
    slot.elim t fun n => t.withSlot n fun e => { e with defect := countUp e.defect } := by
  cases slot <;> simp only [State.placeDefect, count_of_counted open_ running] <;> rfl

theorem placeSaturated_of_none {xy : Option (Nat × Nat)} : s.placeSaturated k xy none =
    s.withSummary k.ctx fun m => { m with saturated := countUp m.saturated } := by
  cases xy <;> exact count_of_counted open_ running _

theorem placeSaturated_of_some (xy : Nat × Nat) (n : Nat) : s.placeSaturated k (some xy) (some n) =
    ((s.withSummary k.ctx fun m => { m with saturated := countUp m.saturated }).withSlot n
      fun e => { e with saturated := countUp e.saturated }).reportedBy k.ctx n (Watch.seesSaturated xy) (k.hitAt xy) := by
  rw [State.placeSaturated, count_of_counted open_ running]
  exact report_eq (passes_matchesSaturated xy) _ _ _ _

theorem placeOffGrid_eq : s.placeOffGrid k = s.withSummary k.ctx fun m => { m with offGrid := countUp m.offGrid } :=
  count_of_counted open_ running _

theorem placeCrowded_eq (n : Nat) : s.placeCrowded k n =
    (s.withSummary k.ctx fun m => { m with crowded := countUp m.crowded }).withSlot n
      fun e => { e with crowded := countUp e.crowded } := by
  rw [State.placeCrowded, count_of_counted open_ running]
  rfl

theorem placeAccepted_eq (v : Version) (x : Int) (xy : Nat × Nat) (n : Nat) : s.placeAccepted k v x xy n =
    (((accumulated s (skyAddress n (positionOf xy)) v.weight x).withSummary k.ctx fun m =>
      { m with pixels := countUp m.pixels }).withSlot n fun e => e.acceptPixel k.seg).reportedBy
      k.ctx n (Watch.seesAccepted xy k.seg x) (k.hitAt xy) := by
  rw [← count_of_counted (s := accumulated s (skyAddress n (positionOf xy)) v.weight x) open_ running]
  exact report_eq (passes_matchesAccepted xy k.seg x) _ _ _ _

end Outcomes

/-! ### The errors of one read -/

theorem memoryError_eq (s : State) (n position : Nat) (found : Option MemoryError) :
    (found.elim s fun e => s.memoryError n position e) = s.errorsBy n (found.toList.map fun x => (position, x)) := by
  cases found with
  | none => exact (errorsBy_nil s n).symm
  | some e => exact memoryErrors_eq s n (found := [(position, e)]) (List.nodup_singleton position)

/-- Findings at one position leave the other records. -/
theorem memory_read_errorsBy_other (s : State) {n position b : Nat} (found : Option MemoryError)
    (h : b ≠ n * 4096 + position) :
    Memory.read (s.errorsBy n (found.toList.map fun x => (position, x))).ctb.memory b = Memory.read s.ctb.memory b := by
  rcases found with _ | _ | _
  · rfl
  · rfl
  · exact memory_read_lost s.ctb.memory h

/-- The accumulation step on what the read of the pair left. -/
def accumulateAt (u : State) (k : Commit) (v : Version) (x : Int) (xy : Nat × Nat) (n : Nat) : State :=
  if 2040 < (Memory.read u.ctb.memory (skyAddress n (positionOf xy))).weight + v.weight then u.placeCrowded k n
  else u.placeAccepted k v x xy n

theorem accumulate_eq (s : State) (k : Commit) (v : Version) (x : Int) (xy : Nat × Nat) (n : Nat)
    (found : Option MemoryError) : s.accumulate k v x xy n found =
      accumulateAt (s.errorsBy n (found.toList.map fun e => (positionOf xy, e))) k v x xy n := by
  rw [← memoryError_eq]
  cases found <;> rfl

/-! ### One pixel -/

section Pixel

variable {s : State} {k : Commit} {v : Version} {found : Option MemoryError}

theorem exec_pixelPlace (commit : s.ple.commit = some k) (place : k.phase = .place) (more : k.col < k.cols)
    (resolved : s.resolved k.ctx k.seg = some v) {t : State} (placed : s.placePixel k v found = t) :
    exec (.pixelPlace found) s = .next { t with ple := { s.ple with commit := some { k with col := k.col + 1 } } } := by
  have ple : t.ple = s.ple := by rw [← placed]; simp
  rw [show exec (.pixelPlace found) s = execPixelPlace found s from rfl, execPixelPlace, commit]
  simp only [place, more, and_self, if_true, resolved, placed, changeCommit_eq (s := t) (ple ▸ commit), withCommit, ple,
    Commit.nextColumn]

/-- The slot a pixel falls into. -/
def slotAt (s : State) (k : Commit) (v : Version) : Option Nat :=
  (v.skyPixel k.row k.col).bind fun p => s.ctb.index k.ctx (cellOf p)

theorem placePixel_of_defect (h : v.defective s.cat.stamps k.row k.col = true) :
    s.placePixel k v found = s.placeDefect k (slotAt s k v) := if_pos h

theorem placePixel_of_saturated (h : ¬v.defective s.cat.stamps k.row k.col = true) (full : v.saturation ≤ s.rawPixel k) :
    s.placePixel k v found = s.placeSaturated k (v.skyPixel k.row k.col) (slotAt s k v) :=
  (if_neg h).trans (if_pos full)

theorem placePixel_of_offGrid (h : ¬v.defective s.cat.stamps k.row k.col = true) (below : s.rawPixel k < v.saturation)
    (off : v.skyPixel k.row k.col = none) : s.placePixel k v found = s.placeOffGrid k := by
  refine (if_neg h).trans ((if_neg (Nat.not_le.2 below)).trans ?_)
  rw [off]

theorem placePixel_of_onGrid (h : ¬v.defective s.cat.stamps k.row k.col = true) (below : s.rawPixel k < v.saturation)
    {xy : Nat × Nat} {n : Nat} (at_ : v.skyPixel k.row k.col = some xy) (slot : slotAt s k v = some n) :
    s.placePixel k v found = s.placeOnGrid k v xy n found := by
  have index : s.ctb.index k.ctx (cellOf xy) = some n := by
    rw [slotAt, at_] at slot
    exact slot
  refine (if_neg h).trans ((if_neg (Nat.not_le.2 below)).trans ?_)
  rw [at_, Option.bind_some, index]

theorem contributes_eq {n : Nat} {e : Slot} (listed : s.ctb.slots.read n = some e) :
    s.ctb.contributes n k.seg = e.contributors.any fun q => q.seg == k.seg := by
  rw [Ctb.contributes, Ctb.slotIs, listed]
  rfl

theorem placeOnGrid_of_stranger {n : Nat} {e : Slot} (listed : s.ctb.slots.read n = some e)
    (stranger : ∀ q ∈ e.contributors, q.seg ≠ k.seg) (xy : Nat × Nat) :
    s.placeOnGrid k v xy n found = s.placeCrowded k n := by
  refine if_neg ?_
  rw [contributes_eq listed, List.any_eq_true]
  rintro ⟨q, mem, same⟩
  exact stranger q mem (eq_of_beq same)

theorem placeOnGrid_of_contributor {n : Nat} {e : Slot} (listed : s.ctb.slots.read n = some e)
    (contributor : ∃ q ∈ e.contributors, q.seg = k.seg) (xy : Nat × Nat) : s.placeOnGrid k v xy n found =
      accumulateAt (s.errorsBy n (found.toList.map fun e => (positionOf xy, e))) k v (v.calibrate k.col (s.rawPixel k)) xy n := by
  obtain ⟨q, mem, same⟩ := contributor
  rw [← accumulate_eq]
  refine if_pos ?_
  rw [contributes_eq listed, List.any_eq_true]
  exact ⟨q, mem, beq_iff_eq.2 same⟩

end Pixel

/-- Settles O47: the outcomes in the order of the tests. -/
theorem pixelOutcomesFollowTheOrderOfTests : Obligations.PixelOutcomesFollowTheOrderOfTests := by
  intro s k v commit place more resolved open_ running raw up gives xy? slot? hit defect
  have outcome {found : Option MemoryError} {t : State} (placed : s.placePixel k v found = t) : gives found t :=
    exec_pixelPlace commit place more resolved placed
  refine ⟨fun found bad => ?_, fun found good full => ?_, fun good below => ⟨fun found off => ?_, ?_⟩⟩
  · intro t
    have placed := (placePixel_of_defect (k := k) (found := found) bad).trans (placeDefect_eq open_ running _)
    refine ⟨fun none_ => outcome (placed.trans ?_), fun n at_ => outcome (placed.trans ?_)⟩
    · rw [show slotAt s k v = none from none_]
      rfl
    · rw [show slotAt s k v = some n from at_]
      rfl
  · intro t
    have placed := placePixel_of_saturated (k := k) (found := found) good full
    refine ⟨fun none_ => outcome (placed.trans ?_), fun xy n at_ slot => outcome (placed.trans ?_)⟩
    · rw [show slotAt s k v = none from none_, placeSaturated_of_none open_ running]
      rfl
    · rw [show slotAt s k v = some n from slot, show v.skyPixel k.row k.col = some xy from at_,
        placeSaturated_of_some open_ running]
      rfl
  · exact outcome ((placePixel_of_offGrid good below off).trans (placeOffGrid_eq open_ running))
  · intro xy n e at_ slot listed position a value crowded
    have onGrid (found : Option MemoryError) := placePixel_of_onGrid (found := found) good below at_ slot
    refine ⟨fun stranger found => outcome ((onGrid found).trans ((placeOnGrid_of_stranger listed stranger xy).trans
      (placeCrowded_eq open_ running n))), fun contributor wf found => ?_⟩
    intro errors u r
    have placed := (onGrid found).trans (placeOnGrid_of_contributor listed contributor xy)
    have read : Memory.read u.ctb.memory a = r := memory_read_errorsBy wf n position errors
    refine ⟨fun full => outcome (placed.trans ?_), fun room => ?_⟩
    · refine (if_pos ?_).trans (placeCrowded_eq (s := u) open_ running n)
      rw [← read] at full
      exact full
    · refine ⟨Memory.write u.ctb.memory a { r with sum := r.sum + v.weight * value, weight := r.weight + v.weight },
        fun b => ?_, ?_⟩
      · have wf' : u.ctb.memory.wf = true := memory_wf_lost wf n (lostIn errors)
        rw [memory_read_write _ _ _ _ wf']
        split_ifs with here
        · rfl
        · exact memory_read_errorsBy_other s found here
      · intro t plus
        refine outcome (placed.trans ((if_neg ?_).trans ((placeAccepted_eq (s := u) open_ running v value xy n).trans ?_)))
        · rw [← read] at room
          exact Nat.not_lt.2 room
        · have sum : accumulated u (skyAddress n (positionOf xy)) v.weight value = t := by
            rw [accumulated, show Memory.read u.ctb.memory (skyAddress n (positionOf xy)) = r from read]
            rfl
          rw [sum]
          rfl

end Sys2Proof.Proofs

/-! ## Proofs: slots given up, with watch requests between them (R119, R128, R133, R151) -/

namespace Sys2Proof.Proofs

open Sys2Proof Sys2Proof.Machine Sys2Proof.Laws

/-! ### Watch requests taken between two slots -/

/-- The part with another catalogue, another engine and another record of the requests taken. -/
def aside (c : Cat) (p : Ple) (l : List (List Byte)) (s : State) : State :=
  { s with cat := c, ple := p, cmd := { s.cmd with taken := l } }

section Aside

variable (c : Cat) (p : Ple) (l : List (List Byte))

theorem request_aside {owner : State → State × Answer}
    (h : ∀ u, owner (aside c p l u) = (aside c p l (owner u).1, (owner u).2)) (s : State) (fits : Bool) (f : Frame) :
    (aside c p l s).request .ordinary fits f owner = aside c p l (s.request .ordinary fits f owner) := by
  simp only [State.request]
  rw [show ((aside c p l s).clockOut f.length).part = (s.clockOut f.length).part from rfl]
  split
  · rfl
  · split
    · rw [show ((aside c p l s).clockOut f.length).cancelFor .ordinary =
        aside c p l ((s.clockOut f.length).cancelFor .ordinary) from rfl, h]
      rfl
    · rfl

theorem setWatch_aside (f : Frame) (u : State) :
    State.setWatch f (aside c p l u) = (aside c p l (State.setWatch f u).1, (State.setWatch f u).2) := by
  simp only [State.setWatch]
  (repeat' split) <;> rfl

theorem clearWatch_aside (f : Frame) (u : State) :
    State.clearWatch f (aside c p l u) = (aside c p l (State.clearWatch f u).1, (State.clearWatch f u).2) := by
  simp only [State.clearWatch]
  split <;> rfl

theorem acknowledge_aside (f : Frame) (u : State) :
    State.acknowledge f (aside c p l u) = (aside c p l (State.acknowledge f u).1, (State.acknowledge f u).2) := by
  simp only [State.acknowledge]
  split <;> rfl

theorem takeWatchRequest_aside (s : State) (i : Instr) :
    (aside c p l s).takeWatchRequest i = (s.takeWatchRequest i).map (aside c p l) := by
  unfold State.takeWatchRequest
  split
  · exact congrArg some (request_aside c p l (setWatch_aside c p l _) s _ _)
  · exact congrArg some (request_aside c p l (clearWatch_aside c p l _) s _ _)
  · exact congrArg some (request_aside c p l (acknowledge_aside c p l _) s _ _)
  · rfl

end Aside

theorem takeWatchRequest_of_other {c : Instr} (h : watchRequest c = false) (s : State) : s.takeWatchRequest c = none := by
  unfold State.takeWatchRequest
  split
  · nomatch h
  · nomatch h
  · nomatch h
  · rfl

/-- The part with another record of the requests taken ahead of their turn. -/
def withTaken (s : State) (l : List (List Byte)) : State := { s with cmd := { s.cmd with taken := l } }

theorem withTaken_of_beside {s t : State} (h : besideWatches t = besideWatches s) (l : List (List Byte)) :
    aside s.cat s.ple l t = withTaken t l := by
  simp only [besideWatches, Prod.mk.injEq] at h
  obtain ⟨-, cat, -, -, ple, -⟩ := h
  rw [← cat, ← ple]
  rfl

theorem exec_watchRequest {c : Instr} (h : watchRequest c = true) (s : State) : exec c s = .next (s.inTurn c) := by
  unfold watchRequest at h
  split at h
  · rfl
  · rfl
  · rfl
  · nomatch h

theorem takeWatchRequest_isSome {c : Instr} (h : watchRequest c = true) (s : State) : ∃ t, s.takeWatchRequest c = some t := by
  unfold watchRequest at h
  split at h
  · exact ⟨_, rfl⟩
  · exact ⟨_, rfl⟩
  · exact ⟨_, rfl⟩
  · nomatch h

/-- A watch request as the port takes it, in its turn and ahead of it. -/
theorem takeWatchRequest_of_watch {c : Instr} (h : watchRequest c = true) (s : State) : ∃ t,
    s.takeWatchRequest c = some t ∧ exec c (withTaken s []) = .next (withTaken t []) := by
  obtain ⟨t, taken⟩ := takeWatchRequest_isSome h s
  have turn : (withTaken s []).takeWatchRequest c = some (withTaken t []) := by
    rw [show withTaken s [] = aside s.cat s.ple [] s from rfl, takeWatchRequest_aside, taken, Option.map_some,
      withTaken_of_beside (takeWatchRequest_beside s t c taken)]
  refine ⟨t, taken, ?_⟩
  rw [exec_watchRequest h, inTurn_of_nil _ c rfl, turn]
  rfl

theorem takeAhead_eq (m : Nat) (s : State) : State.takeAhead m s = State.takenBetween m s := by
  induction m generalizing s with
  | zero => rfl
  | succ m ih =>
    rw [State.takeAhead, State.takenBetween, State.nextWaiting]
    cases s.pending[s.cmd.taken.length]? with
    | none => rfl
    | some c =>
      cases watch : watchRequest c with
      | false => simp [takeWatchRequest_of_other watch, watch]
      | true =>
        obtain ⟨t, taken, run⟩ := takeWatchRequest_of_watch watch s
        simp only [Option.bind_some, taken, watch, if_true]
        rw [show exec c { s with cmd := { s.cmd with taken := [] } } = .next (withTaken t []) from run]
        exact ih _

theorem betweenSlots_eq (s : State) : s.betweenSlots =
    if s.requestWaits = true then
      State.takenBetween (Config.requestsBetween s.cmd.free) { s with cmd := { s.cmd with free := s.cmd.free + 1 } }
    else s := by
  rw [State.betweenSlots, State.requestWaits, State.nextWaiting]
  cases s.pending[s.cmd.taken.length]? with
  | none => rfl
  | some c =>
    cases watch : watchRequest c with
    | false => simp [takeWatchRequest_of_other watch, watch]
    | true =>
      obtain ⟨t, taken, -⟩ := takeWatchRequest_of_watch watch s
      simp only [Option.bind_some, taken, Option.any_some, watch, if_true]
      exact takeAhead_eq ..

theorem betweenSlots_of_no_request {s : State} (h : s.requestWaits = false) : s.betweenSlots = s := by
  rw [betweenSlots_eq, if_neg (by rw [h]; decide)]

/-! ### One slot given up -/

/-- A slot given up: dropped under a FLUSH, else queued, with requests taken before it. -/
def giveUp (k : Completeness) (s : State) (n : Nat) : State :=
  if s.exc.flushing = true then s.dropSlot n else s.queueNext n k

theorem closeSlot_eq (s : State) (n : Nat) : s.closeSlot n = giveUp .partly s n := rfl

section GiveUp

variable {k : Completeness} {s : State}

theorem giveUp_of_flush (h : s.exc.flushing = true) (n : Nat) : giveUp k s n = s.droppedBy [n] :=
  (if_pos h).trans (dropSlot_eq s n)

theorem giveUp_of_queue (h : s.exc.flushing = false) (wf : s.ctb.slots.wf = true) {n : Nat}
    (listed : s.ctb.slots.read n ≠ none) : giveUp k s n = s.betweenSlots.queuedBy [n] k := by
  obtain ⟨e, read⟩ := Option.ne_none_iff_exists'.1 listed
  have same : s.betweenSlots.ctb = s.ctb := by simp
  rw [← queueSlot_eq (s := s.betweenSlots) (by rw [same]; exact wf) (by rw [same]; exact read)]
  exact if_neg (by rw [h]; decide)

theorem queuedBy_flushing (s : State) (ns : List Nat) (k : Completeness) :
    (s.queuedBy ns k).exc.flushing = s.exc.flushing := rfl

theorem giveUp_flushing (wf : s.ctb.slots.wf = true) {n : Nat} (listed : s.ctb.slots.read n ≠ none) :
    (giveUp k s n).exc.flushing = s.exc.flushing := by
  cases flushing : s.exc.flushing with
  | true =>
    rw [giveUp_of_flush flushing]
    exact flushing
  | false =>
    have same : s.betweenSlots.exc = s.exc := by simp
    rw [giveUp_of_queue flushing wf listed, queuedBy_flushing, same, flushing]

theorem giveUp_ple (n : Nat) : (giveUp k s n).ple = s.ple := by
  rw [giveUp]
  split <;> simp

theorem giveUp_wf (wf : s.ctb.slots.wf = true) {n : Nat} (listed : s.ctb.slots.read n ≠ none) :
    (giveUp k s n).ctb.slots.wf = true := by
  cases flushing : s.exc.flushing with
  | true =>
    rw [giveUp_of_flush flushing]
    exact table_wf_filter s.ctb.slots _ wf
  | false =>
    have same : s.betweenSlots.ctb = s.ctb := by simp
    rw [giveUp_of_queue flushing wf listed]
    refine queuedBy_wf ?_ [n] k
    rw [same]
    exact wf

theorem giveUp_read_other (wf : s.ctb.slots.wf = true) {n m : Nat} (listed : s.ctb.slots.read n ≠ none) (h : m ≠ n) :
    (giveUp k s n).ctb.slots.read m = s.ctb.slots.read m := by
  cases flushing : s.exc.flushing with
  | true =>
    rw [giveUp_of_flush flushing]
    refine (read_filter_key s.ctb.slots (fun i => decide (i ∉ [n])) m).trans (if_pos ?_)
    simp [h]
  | false =>
    have same : s.betweenSlots.ctb = s.ctb := by simp
    rw [giveUp_of_queue flushing wf listed, queuedBy_read_other k (by simp [h]), same]

end GiveUp

/-! ### Several slots given up -/

theorem droppedBy_append (s : State) (ns ns' : List Nat) : (s.droppedBy ns).droppedBy ns' = s.droppedBy (ns ++ ns') := by
  have out (n : Nat) : (decide (n ∉ ns') && decide (n ∉ ns)) = decide (n ∉ ns ++ ns') := by
    rw [← Bool.decide_and]
    simp [and_comm]
  simp only [State.droppedBy, List.filter_filter, out]

theorem giveUps_of_flush {k : Completeness} {s : State} (h : s.exc.flushing = true) (ns : List Nat) :
    ns.foldl (giveUp k) s = s.droppedBy ns := by
  induction ns generalizing s with
  | nil => simp [State.droppedBy]
  | cons n ns ih =>
    rw [List.foldl_cons, giveUp_of_flush h, ih (s := s.droppedBy [n]) h, droppedBy_append]
    rfl

theorem requestWaits_queuedBy (s : State) (ns : List Nat) (k : Completeness) :
    (s.queuedBy ns k).requestWaits = s.requestWaits := rfl

theorem giveUps_of_no_request {k : Completeness} {s : State} (h : s.exc.flushing = false) (quiet : s.requestWaits = false)
    (wf : s.ctb.slots.wf = true) {ns : List Nat} (distinct : ns.Nodup) (listed : ∀ n ∈ ns, s.ctb.slots.read n ≠ none) :
    ns.foldl (giveUp k) s = s.queuedBy ns k := by
  induction ns generalizing s with
  | nil => exact (queuedBy_nil s k).symm
  | cons n ns ih =>
    obtain ⟨fresh, distinct⟩ := List.nodup_cons.1 distinct
    have here := listed n List.mem_cons_self
    have apart (m : Nat) (hm : m ∈ ns) : m ∉ [n] := fun at_ => fresh (List.mem_singleton.1 at_ ▸ hm)
    have rest (m : Nat) (hm : m ∈ ns) : (s.queuedBy [n] k).ctb.slots.read m ≠ none := by
      rw [queuedBy_read_other k (apart m hm)]
      exact listed m (List.mem_cons_of_mem n hm)
    rw [List.foldl_cons, giveUp_of_queue h wf here, betweenSlots_of_no_request quiet,
      ih (s := s.queuedBy [n] k) h quiet (queuedBy_wf wf [n] k) distinct rest, queuedBy_append apart]
    rfl

/-- One slot queued, with `taken` of the requests that wait taken before it. -/
def queueAfter (taken : Nat → Nat) (k : Completeness) (s : State) (n : Nat) : State :=
  (if s.requestWaits = true then
      State.takenBetween (taken n) { s with cmd := { s.cmd with free := s.cmd.free + 1 } }
    else s).queuedBy [n] k

theorem giveUps_of_requests {k : Completeness} {s : State} (h : s.exc.flushing = false) (wf : s.ctb.slots.wf = true)
    {ns : List Nat} (distinct : ns.Nodup) (listed : ∀ n ∈ ns, s.ctb.slots.read n ≠ none) :
    ∃ taken, ns.foldl (giveUp k) s = ns.foldl (queueAfter taken k) s := by
  induction ns generalizing s with
  | nil => exact ⟨fun _ => 0, rfl⟩
  | cons n ns ih =>
    obtain ⟨fresh, distinct⟩ := List.nodup_cons.1 distinct
    have here := listed n List.mem_cons_self
    have rest (m : Nat) (hm : m ∈ ns) : (giveUp k s n).ctb.slots.read m ≠ none := by
      rw [giveUp_read_other wf here fun same => fresh (same ▸ hm)]
      exact listed m (List.mem_cons_of_mem n hm)
    obtain ⟨taken, later⟩ := ih ((giveUp_flushing (k := k) wf here).trans h) (giveUp_wf wf here) distinct rest
    let all : Nat → Nat := fun m => if m = n then Config.requestsBetween s.cmd.free else taken m
    have first : queueAfter all k s n = giveUp k s n := by
      rw [giveUp_of_queue h wf here, betweenSlots_eq, queueAfter, show all n = Config.requestsBetween s.cmd.free from if_pos rfl]
    refine ⟨all, ?_⟩
    rw [List.foldl_cons, List.foldl_cons, first, later]
    refine List.foldl_ext _ _ _ fun u m hm => ?_
    rw [queueAfter, queueAfter, show all m = taken m from if_neg fun same : m = n => fresh (same ▸ hm)]

/-- Distinct listed slots given up one after another are what `givenUp` says of them. -/
theorem giveUps_eq {s : State} (wf : s.ctb.slots.wf = true) {ns : List Nat} (distinct : ns.Nodup)
    (listed : ∀ n ∈ ns, s.ctb.slots.read n ≠ none) (k : Completeness) :
    ∃ taken, ns.foldl (giveUp k) s = s.givenUp taken ns k := by
  cases flushing : s.exc.flushing with
  | true => exact ⟨fun _ => 0, (giveUps_of_flush flushing ns).trans (if_pos flushing).symm⟩
  | false =>
    have unflushed : ¬s.exc.flushing = true := by rw [flushing]; decide
    by_cases quiet : s.requestWaits = false
    · exact ⟨fun _ => 0, (giveUps_of_no_request flushing quiet wf distinct listed).trans
        ((if_neg unflushed).trans (if_pos quiet)).symm⟩
    · obtain ⟨taken, all⟩ := giveUps_of_requests (k := k) flushing wf distinct listed
      exact ⟨taken, all.trans ((if_neg unflushed).trans (if_neg quiet)).symm⟩

/-! ### The forced close -/

theorem forcedClose_eq (s : State) (c : Ctx) : s.forcedClose c =
    (s.ctb.touched fun e => e.state == .opened && e.ctx == c).foldl (giveUp .partly) s := rfl

/-- Settles O38. -/
theorem forcedCloseQueuesCellsThenTrailer : Obligations.ForcedCloseQueuesCellsThenTrailer := by
  intro s c gathering ended free ok
  obtain ⟨taken, all⟩ := giveUps_eq ok.1 (touched_nodup (touch_nodup_of ok) fun e => e.state == .opened && e.ctx == c)
    (fun n hn => read_of_touched hn) .partly
  refine ⟨taken, ?_⟩
  have ending : (s.ctx c).ending = true := by
    rw [Context.ending, gathering, Bool.and_eq_true, Option.isSome_iff_ne_none]
    exact ⟨rfl, ended⟩
  rw [show exec (.forcedClose c) s = execForcedClose c s from rfl, execForcedClose, if_pos ⟨ending, free⟩, forcedClose_eq, all]
  rfl

end Sys2Proof.Proofs

/-! ## Proofs: completion checks (R119, R120) -/

namespace Sys2Proof.Proofs

open Sys2Proof Sys2Proof.Machine Sys2Proof.Laws

/-! ### Which slots a check gives up -/

/-- A completion check gives the slot up: it is complete and no row holds it (R119). -/
def checkPasses (holds : Bool) (e : Slot) : Bool := e.found && !(e.pinned && holds)

theorem checkSlot_eq (s : State) (n : Nat) : s.checkSlot n =
    if (s.ctb.slots.read n).any (checkPasses s.rowHolds) = true then giveUp .complete s n else s := by
  rw [State.checkSlot]
  cases s.ctb.slots.read n with
  | none => rfl
  | some e =>
    have passes : (e.state = .opened ∧ e.isComplete = true ∧ ¬(e.pinned = true ∧ s.rowHolds = true) ∧
        e.part ≠ Config.finalPart) ↔ checkPasses s.rowHolds e = true := by
      rw [checkPasses, Slot.found]
      simp only [Bool.and_eq_true, Bool.not_eq_true', ← Bool.not_eq_true, bne_iff_ne, beq_iff_eq]
      tauto
    simp only [passes, Option.any_some]
    rfl

theorem rowHolds_eq (s : State) : s.rowHolds = s.ple.commit.any fun k => k.phase != .advance := rfl

theorem giveUp_rowHolds {k : Completeness} {s : State} (n : Nat) : (giveUp k s n).rowHolds = s.rowHolds := by
  rw [rowHolds_eq, rowHolds_eq, giveUp_ple]

/-- Checks one after another give up those that pass at the start. -/
theorem checks_eq {s : State} (wf : s.ctb.slots.wf = true) {l : List Nat} (distinct : l.Nodup) :
    l.foldl State.checkSlot s =
      (l.filter fun n => (s.ctb.slots.read n).any (checkPasses s.rowHolds)).foldl (giveUp .complete) s := by
  induction l generalizing s with
  | nil => rfl
  | cons n l ih =>
    obtain ⟨fresh, distinct⟩ := List.nodup_cons.1 distinct
    rw [List.foldl_cons, checkSlot_eq]
    by_cases passes : (s.ctb.slots.read n).any (checkPasses s.rowHolds) = true
    · have listed : s.ctb.slots.read n ≠ none := fun none_ => by rw [none_] at passes; nomatch passes
      have same : (l.filter fun m => ((giveUp .complete s n).ctb.slots.read m).any
            (checkPasses (giveUp .complete s n).rowHolds)) =
          l.filter fun m => (s.ctb.slots.read m).any (checkPasses s.rowHolds) := by
        refine List.filter_congr fun m hm => ?_
        rw [giveUp_rowHolds, giveUp_read_other wf listed fun at_ : m = n => fresh (at_ ▸ hm)]
      rw [if_pos passes, ih (giveUp_wf wf listed) distinct, same, List.filter_cons, if_pos passes]
      rfl
    · rw [if_neg passes, ih wf distinct, List.filter_cons, if_neg passes]

theorem checkSlots_eq {s : State} (wf : s.ctb.slots.wf = true) (distinct : s.ctb.touch.Nodup) (which : Slot → Bool) :
    s.checkSlots which = (s.ctb.touched fun e => checkPasses s.rowHolds e && which e).foldl (giveUp .complete) s := by
  have both : ((s.ctb.touch.filter fun n => (s.ctb.slots.read n).any which).filter fun n =>
      (s.ctb.slots.read n).any (checkPasses s.rowHolds)) =
      s.ctb.touched fun e => checkPasses s.rowHolds e && which e := by
    rw [List.filter_filter, Ctb.touched]
    congr 1
    funext n
    cases s.ctb.slots.read n <;> rfl
  rw [State.checkSlots, checks_eq wf (distinct.filter _), both]

theorem touched_congr (t : Ctb) {test test' : Slot → Bool} (h : ∀ e, test e = test' e) : t.touched test = t.touched test' := by
  rw [funext h]

/-! ### A check beside the catalogue and the commit -/

/-- The part with another catalogue and another engine. -/
def beside (c : Cat) (p : Ple) (s : State) : State := { s with cat := c, ple := p }

section Beside

variable (c : Cat) (p : Ple)

theorem takeAhead_beside_eq (m : Nat) (s : State) : State.takeAhead m (beside c p s) = beside c p (State.takeAhead m s) := by
  induction m generalizing s with
  | zero => rfl
  | succ m ih =>
    rw [State.takeAhead, State.takeAhead, show (beside c p s).nextWaiting = s.nextWaiting from rfl]
    cases s.nextWaiting with
    | none => rfl
    | some i =>
      simp only [Option.bind_some]
      rw [show beside c p s = aside c p s.cmd.taken s from rfl, takeWatchRequest_aside]
      cases s.takeWatchRequest i with
      | none => rfl
      | some t => exact ih { t with cmd := { t.cmd with
          dataOut := s.cmd.dataOut, taken := s.cmd.taken ++ [t.cmd.dataOut] } }

theorem betweenSlots_beside (s : State) : (beside c p s).betweenSlots = beside c p s.betweenSlots := by
  rw [State.betweenSlots, State.betweenSlots, show (beside c p s).nextWaiting = s.nextWaiting from rfl]
  cases s.nextWaiting with
  | none => rfl
  | some i =>
    simp only [Option.bind_some]
    rw [show (beside c p s).takeWatchRequest i = (s.takeWatchRequest i).map (aside c p s.cmd.taken) from
      takeWatchRequest_aside c p s.cmd.taken s i]
    cases s.takeWatchRequest i with
    | none => rfl
    | some t => exact takeAhead_beside_eq c p _ { s with cmd := { s.cmd with free := s.cmd.free + 1 } }

theorem queueSlot_beside (s : State) (n : Nat) (k : Completeness) :
    (beside c p s).queueSlot n k = beside c p (s.queueSlot n k) := by
  cases read : s.ctb.slots.read n with
  | none => rw [queueSlot_of_none read, queueSlot_of_none (s := beside c p s) read]
  | some e =>
    rw [queueSlot_of_read read, queueSlot_of_read (s := beside c p s) read]
    rfl

theorem giveUp_beside (k : Completeness) (s : State) (n : Nat) :
    giveUp k (beside c p s) n = beside c p (giveUp k s n) := by
  rw [giveUp, giveUp, show (beside c p s).exc = s.exc from rfl]
  split
  · rfl
  · rw [State.queueNext, betweenSlots_beside, queueSlot_beside]
    rfl

theorem giveUps_beside (k : Completeness) (s : State) (ns : List Nat) :
    ns.foldl (giveUp k) (beside c p s) = beside c p (ns.foldl (giveUp k) s) := by
  induction ns generalizing s with
  | nil => rfl
  | cons n ns ih => rw [List.foldl_cons, List.foldl_cons, giveUp_beside, ih]

end Beside

end Sys2Proof.Proofs

/-! ## Proofs: what checks, ends of gathering and the latch leave as it was -/

namespace Sys2Proof.Proofs

open Sys2Proof Sys2Proof.Machine Sys2Proof.Laws

/-! ### Progress and the counts of finished and accepted -/

/-- A context's progress and its counts of finished segments and accepted strips are as they were. -/
structure CountsKept (x y : Context) : Prop where
  progress : y.progress = x.progress
  finished : y.summary.finished = x.summary.finished
  accepted : y.summary.accepted = x.summary.accepted

theorem countsKept_refl (x : Context) : CountsKept x x := ⟨rfl, rfl, rfl⟩

theorem countsKept_trans {x y z : Context} (h : CountsKept x y) (h' : CountsKept y z) : CountsKept x z :=
  ⟨h'.progress.trans h.progress, h'.finished.trans h.finished, h'.accepted.trans h.accepted⟩

theorem countsKept_hitBy (x : Context) (n : Nat) : CountsKept x (x.hitBy n) := by
  unfold Context.hitBy
  split <;> exact ⟨rfl, rfl, rfl⟩

theorem countsKept_refusedBy (x : Context) (code : VerdictCode) (n : Nat) : CountsKept x (x.refusedBy code n) := by
  unfold Context.refusedBy
  split <;> exact ⟨rfl, rfl, rfl⟩

/-- So it is in both contexts. -/
def BothCountsKept (x y : Exc) : Prop := ∀ c, CountsKept (x.ctx c) (y.ctx c)

theorem bothCountsKept_refl (x : Exc) : BothCountsKept x x := fun _ => countsKept_refl _

theorem bothCountsKept_trans {x y z : Exc} (h : BothCountsKept x y) (h' : BothCountsKept y z) : BothCountsKept x z :=
  fun c => countsKept_trans (h c) (h' c)

theorem bothCountsKept_of_ctx {x y : Exc} (h : ∀ c, y.ctx c = x.ctx c) : BothCountsKept x y :=
  fun c => h c ▸ countsKept_refl _

theorem eq_or_otherCtx (c d : Ctx) : d = c ∨ d = otherCtx c := by cases c <;> cases d <;> decide

theorem bothCountsKept_setCtx {x : Exc} {c : Ctx} {k : Context} (h : CountsKept (x.ctx c) k) :
    BothCountsKept x (x.setCtx c k) := by
  intro d
  rcases eq_or_otherCtx c d with rfl | rfl
  · rw [ctx_setCtx_self]
    exact h
  · rw [ctx_setCtx_other]
    exact countsKept_refl _

theorem bothCountsKept_refusals (x : Exc) (l : List Nat) (code : VerdictCode) :
    BothCountsKept x (x.refusalsCounted l code) := fun c =>
  refusalsCounted_ctx l c ▸ countsKept_refusedBy _ code _

/-! ### Slots given up -/

section GiveUp

variable (k : Completeness) (s : State)

theorem giveUp_counts (n : Nat) : BothCountsKept s.exc (giveUp k s n).exc := by
  rw [giveUp]
  split
  · exact bothCountsKept_refl _
  · have same : s.betweenSlots.exc = s.exc := by simp
    rw [State.queueNext, ← same]
    cases read : s.betweenSlots.ctb.slots.read n with
    | none =>
      rw [queueSlot_of_none read]
      exact bothCountsKept_refl _
    | some e =>
      rw [queueSlot_of_read read]
      exact bothCountsKept_setCtx (countsKept_hitBy _ _)

theorem giveUp_memory (n : Nat) : (giveUp k s n).ctb.memory = s.ctb.memory := by
  rw [giveUp]
  split
  · rfl
  · have same : s.betweenSlots.ctb = s.ctb := by simp
    rw [State.queueNext, ← same]
    cases read : s.betweenSlots.ctb.slots.read n with
    | none => rw [queueSlot_of_none read]
    | some e =>
      rw [queueSlot_of_read read]
      rfl

theorem giveUp_quiet {s : State} (quiet : s.requestWaits = false) (n : Nat) :
    (giveUp k s n).cmd = s.cmd ∧ (giveUp k s n).pending = s.pending := by
  rw [giveUp]
  split
  · exact ⟨rfl, rfl⟩
  · rw [State.queueNext, betweenSlots_of_no_request quiet]
    simp

end GiveUp

/-! ### Completion checks -/

section Checks

variable (s : State)

theorem checks_counts (l : List Nat) : BothCountsKept s.exc (l.foldl State.checkSlot s).exc := by
  induction l generalizing s with
  | nil => exact bothCountsKept_refl _
  | cons n l ih =>
    refine bothCountsKept_trans ?_ (ih (s.checkSlot n))
    rw [checkSlot_eq]
    split
    · exact giveUp_counts .complete s n
    · exact bothCountsKept_refl _

theorem checkSlots_counts (which : Slot → Bool) : BothCountsKept s.exc (s.checkSlots which).exc := checks_counts s _

theorem checkSlots_memory (which : Slot → Bool) : (s.checkSlots which).ctb.memory = s.ctb.memory :=
  foldl_keeps (fun s : State => s.ctb.memory) _ (fun s n => by
    rw [checkSlot_eq]
    split
    · exact giveUp_memory .complete s n
    · rfl) _ s

variable {s} (quiet : s.requestWaits = false)

include quiet

theorem checks_quiet (l : List Nat) : (l.foldl State.checkSlot s).cmd = s.cmd := by
  induction l generalizing s with
  | nil => rfl
  | cons n l ih =>
    have one : (s.checkSlot n).cmd = s.cmd ∧ (s.checkSlot n).pending = s.pending := by
      rw [checkSlot_eq]
      split
      · exact giveUp_quiet .complete quiet n
      · exact ⟨rfl, rfl⟩
    have still : (s.checkSlot n).requestWaits = false := by
      rw [State.requestWaits, one.1, one.2]
      exact quiet
    exact (ih still).trans one.1

theorem checkSlots_quiet (which : Slot → Bool) : (s.checkSlots which).cmd = s.cmd := checks_quiet quiet _

end Checks

/-! ### Ends of gathering, the latch and the head of the queue -/

/-- Counts are kept, the catalogue lost no more than markers, and no cause was cleared. -/
structure EndKept (s t : State) : Prop where
  counts : BothCountsKept s.exc t.exc
  cat : ∃ test, t.cat = s.cat.unmarked test
  flags : ∃ m, t.att.flags = s.att.flags ||| m

theorem endKept_of {s t : State} (counts : BothCountsKept s.exc t.exc) (cat : t.cat = s.cat) (att : t.att = s.att) :
    EndKept s t :=
  ⟨counts, ⟨fun _ => false, cat.trans (unmarked_of_none fun _ => rfl).symm⟩, ⟨0#9, by rw [att, BitVec.or_zero]⟩⟩

theorem endKept_refl (s : State) : EndKept s s := endKept_of (bothCountsKept_refl _) rfl rfl

theorem endKept_trans {s t u : State} (h : EndKept s t) (h' : EndKept t u) : EndKept s u := by
  obtain ⟨counts, ⟨test, cat⟩, ⟨m, flags⟩⟩ := h
  obtain ⟨counts', ⟨test', cat'⟩, ⟨m', flags'⟩⟩ := h'
  exact ⟨bothCountsKept_trans counts counts', ⟨_, by rw [cat', cat, unmarked_unmarked]⟩,
    ⟨m ||| m', by rw [flags', flags, BitVec.or_assoc]⟩⟩

theorem endKept_raise (s : State) (c : Cause) : EndKept s (s.raise c) :=
  ⟨bothCountsKept_refl _, ⟨fun _ => false, (unmarked_of_none fun _ => rfl).symm⟩, ⟨c.mask, rfl⟩⟩

theorem endKept_setCtx {s : State} {c : Ctx} {k : Context} (h : CountsKept (s.ctx c) k) :
    EndKept s { s with exc := s.exc.setCtx c k } := endKept_of (bothCountsKept_setCtx h) rfl rfl

theorem abandonedBy_endKept (s : State) (test : Strip → Bool) (code : VerdictCode) :
    EndKept s (s.abandonedBy test code) :=
  ⟨bothCountsKept_refusals _ _ code, ⟨_, rfl⟩, ⟨0#9, BitVec.or_zero.symm⟩⟩

theorem naturallyEnded_endKept (s : State) (c : Ctx) : EndKept s (s.naturallyEnded c) := by
  unfold State.naturallyEnded
  simp only
  split
  · refine endKept_trans (t := { s with exc := s.exc.setCtx c { s.ctx c with endCause := some .natural, timer := none } })
      (endKept_setCtx ⟨rfl, rfl, rfl⟩) ?_
    exact abandonedBy_endKept _ _ _
  · exact endKept_refl s

theorem closeContext_endKept (s : State) (c : Ctx) : EndKept s (s.closeContext c) := by
  rw [closeContext_eq]
  refine endKept_trans (t := { s with exc := s.exc.setCtx c { s.ctx c with
    state := .gathering, timer := if s.exc.flushing = true then none else some s.params.gatherLimit } })
    (endKept_setCtx ⟨rfl, rfl, rfl⟩) ?_
  exact naturallyEnded_endKept _ c

theorem takeClosing_endKept (s : State) : EndKept s s.takeClosing := by
  rw [State.takeClosing]
  split
  · exact closeContext_endKept s _
  · exact endKept_raise s _

theorem takeOpening_endKept (s : State) : EndKept s s.takeOpening := by
  rw [State.takeOpening]
  split
  · exact endKept_raise s _
  · exact endKept_raise s _
  · exact endKept_raise s _
  · exact endKept_of (bothCountsKept_of_ctx fun c => by cases c <;> rfl) rfl rfl

theorem withLatch_endKept (s : State) (opening closing : Bool) : EndKept s (withLatch s opening closing) :=
  endKept_of (bothCountsKept_of_ctx fun c => by cases c <;> rfl) rfl rfl

theorem serveClosing_endKept (s : State) : EndKept s s.serveClosing := by
  rw [State.serveClosing]
  split
  · exact endKept_trans (withLatch_endKept s s.exc.latch.opening false) (takeClosing_endKept _)
  · exact endKept_refl s

theorem serveLatch_endKept (s : State) : EndKept s s.serveLatch := by
  rw [State.serveLatch]
  split
  · exact endKept_refl s
  · split
    · exact endKept_trans (withLatch_endKept s false s.exc.latch.closing)
        (endKept_trans (takeOpening_endKept _) (serveClosing_endKept _))
    · exact serveClosing_endKept s

theorem takeHead_counts (s : State) : BothCountsKept s.exc s.takeHead.exc := by
  rw [State.takeHead]
  split
  · split
    · exact bothCountsKept_refl _
    · exact bothCountsKept_refl _
    · exact bothCountsKept_setCtx ⟨rfl, rfl, rfl⟩
  · exact bothCountsKept_refl _

theorem takeHead_endKept (s : State) : EndKept s s.takeHead :=
  endKept_of (takeHead_counts s) (by simp) (by simp)

end Sys2Proof.Proofs

/-! ## Proofs: the withdrawal of a batch (R44 to R46) -/

namespace Sys2Proof.Proofs

open Sys2Proof Sys2Proof.Machine Sys2Proof.Laws

/-! ### Retired entries -/

/-- An entry withdrawn with its batch. -/
def retiredEntry (segs : List Nat) (e : Entry) : Entry :=
  if e.seg ∈ segs then { e with state := .retiring, member := false } else e

theorem retiredEntry_seg (segs : List Nat) (e : Entry) : (retiredEntry segs e).seg = e.seg := by
  rw [retiredEntry]
  split <;> rfl

theorem retiredEntry_installed (segs : List Nat) (e : Entry) : (retiredEntry segs e).installed = e.installed := by
  rw [retiredEntry]
  split <;> rfl

theorem retiredEntry_of_other {segs : List Nat} {e : Entry} (h : e.seg ∉ segs) : retiredEntry segs e = e := if_neg h

/-- The catalogue with the members of a batch RETIRING. -/
def retireCat (segs : List Nat) (c : Cat) : Cat :=
  { c with
    entries := c.entries.map fun e => (e.1, retiredEntry segs e.2)
    sign := c.sign.afterAll segs }

theorem retireCat_eq (segs : List Nat) (c : Cat) : (c.disturb segs).mapEntries (fun e =>
    if e.seg ∈ segs then { e with state := .retiring, member := false } else e) = retireCat segs c := by
  rw [disturb_eq]
  rfl

theorem retireCat_unmarked (segs : List Nat) (c : Cat) (test : Marker → Bool) :
    (retireCat segs c).unmarked test = retireCat segs (c.unmarked test) := by
  have entry (e : Entry) : (if (retiredEntry segs e).marker.any test = true then
        { retiredEntry segs e with marker := none } else retiredEntry segs e) =
      retiredEntry segs (if e.marker.any test = true then { e with marker := none } else e) := by
    by_cases member : e.seg ∈ segs <;> by_cases named : e.marker.any test = true <;> simp [retiredEntry, member, named]
  simp only [retireCat, Cat.unmarked, List.map_map, Function.comp_def, entry]

theorem find_retireCat (segs : List Nat) (c : Cat) (seg : Nat) :
    (retireCat segs c).find seg = (c.find seg).map fun e => (e.1, retiredEntry segs e.2) := by
  simp only [Cat.find, retireCat, List.find?_map, Function.comp_def, retiredEntry_seg]

/-- The part with the members of a batch RETIRING. -/
def withRetired (segs : List Nat) (s : State) : State := { s with cat := retireCat segs s.cat }

theorem resolved_withRetired (segs : List Nat) (s : State) (c : Ctx) (seg : Nat) :
    (withRetired segs s).resolved c seg = s.resolved c seg := by
  rw [State.resolved, State.resolved, show (withRetired segs s).cat.find seg = _ from find_retireCat segs s.cat seg]
  cases s.cat.find seg with
  | none => rfl
  | some e =>
    have same : (s.ctx c).resolve (retiredEntry segs e.2) = (s.ctx c).resolve e.2 := by
      rw [Context.resolve, Context.resolve, retiredEntry_installed]
    exact congrArg (Option.map fun i : Installed => i.version) same

theorem finished_withRetired (segs : List Nat) (s : State) (c : Ctx) (r : Progress) :
    (withRetired segs s).finished c r = s.finished c r := by
  rw [State.finished, State.finished, resolved_withRetired]

theorem abandonedBy_withRetired (segs : List Nat) (s : State) (test : Strip → Bool) (code : VerdictCode) :
    (withRetired segs s).abandonedBy test code = withRetired segs (s.abandonedBy test code) :=
  congrArg (fun c => ({ s.abandonedBy test code with cat := c } : State)) (retireCat_unmarked segs s.cat _)

theorem naturallyEnded_withRetired (segs : List Nat) (s : State) (c : Ctx) :
    (withRetired segs s).naturallyEnded c = withRetired segs (s.naturallyEnded c) := by
  unfold State.naturallyEnded
  simp only [finished_withRetired]
  rw [show (withRetired segs s).ctx c = s.ctx c from rfl, show (withRetired segs s).exc = s.exc from rfl]
  split
  · exact abandonedBy_withRetired segs
      { s with exc := s.exc.setCtx c { s.ctx c with endCause := some .natural, timer := none } } _ _
  · rfl

/-! ### The members become VACANT -/

theorem afterAll_afterAll (g : Signature) (segs : List Nat) : (g.afterAll segs).afterAll segs = g.afterAll segs := by
  by_cases due : g.status = .running ∧ ∃ seg ∈ segs, seg < g.position
  · rw [show g.afterAll segs = { g with disturbed := true } from if_pos due]
    exact if_pos due
  · rw [show g.afterAll segs = g from if_neg due, show g.afterAll segs = g from if_neg due]

theorem vacateMembers_withRetired (segs : List Nat) (u : State) : (withRetired segs u).vacateMembers segs = { u with
    cat := { u.cat with
      entries := u.cat.entries.filter fun e => decide (e.2.seg ∉ segs)
      batch := .closed
      sign := u.cat.sign.afterAll segs }
    att := { u.att with flags := u.att.flags ||| 0b100000000#9 } } := by
  have entries : ((u.cat.entries.map fun e => (e.1, retiredEntry segs e.2)).filter fun e => !decide (e.2.seg ∈ segs)) =
      u.cat.entries.filter fun e => decide (e.2.seg ∉ segs) := by
    rw [List.filter_map]
    simp only [Function.comp_def, retiredEntry_seg, ← decide_not]
    refine (List.map_congr_left fun e he => ?_).trans (List.map_id _)
    rw [retiredEntry_of_other (of_decide_eq_true (List.mem_filter.1 he).2)]
    rfl
  rw [State.vacateMembers, disturb_eq]
  simp only [withRetired, retireCat, entries, afterAll_afterAll]
  rfl

/-! ### The withdrawal -/

/-- The part with the members withdrawn from the open contexts and the OPEN slots. -/
def withdrawnFrom (s : State) (segs : List Nat) : State := { s with
  exc := { s.exc with ctxA := s.exc.ctxA.withdraw segs, ctxB := s.exc.ctxB.withdraw segs }
  ctb := { s.ctb with slots := s.ctb.slots.map fun e => (e.1, e.2.withdraw segs) } }

/-- The slots a withdrawal may complete. -/
def memberSlot (segs : List Nat) (e : Slot) : Bool := e.state == .opened && e.contributors.any fun q => q.seg ∈ segs

theorem withdrawMembers_eq (s : State) (segs : List Nat) : s.withdrawMembers segs =
    (((withRetired segs (withdrawnFrom s segs)).checkSlots (memberSlot segs)).naturallyEnded .A).naturallyEnded .B := by
  rw [← naturalEnd_eq, ← naturalEnd_eq, State.withdrawMembers, retireCat_eq]
  rfl

theorem exec_batchWithdrawal {s : State} (applying : s.cat.batch = .applying true) (free : s.committingMember = false) :
    exec .batchWithdrawal s =
      .next (((s.withdrawMembers s.cat.members).vacateMembers s.cat.members).serveLatch).takeHead :=
  if_pos ⟨applying, free⟩

theorem withdraw_eq (x : Context) (segs : List Nat) : x.withdraw segs = if x.isOpen = true then
    { x with progress := x.progress.map fun r => if r.seg ∈ segs then { r with withdrawn := true } else r } else x := rfl

end Sys2Proof.Proofs

/-! ## Proofs: what a withdrawal leaves (R44 to R46) -/

namespace Sys2Proof.Proofs

open Sys2Proof Sys2Proof.Machine Sys2Proof.Laws

section Withdrawal

variable (s : State) (segs : List Nat)

/-- The part after the members were withdrawn and the slots checked. -/
def checkedFrom : State := (withRetired segs (withdrawnFrom s segs)).checkSlots (memberSlot segs)

theorem withdrawMembers_endKept : EndKept (checkedFrom s segs) (s.withdrawMembers segs) := by
  rw [withdrawMembers_eq]
  exact endKept_trans (naturallyEnded_endKept _ .A) (naturallyEnded_endKept _ .B)

theorem withdrawMembers_memory : (s.withdrawMembers segs).ctb.memory = s.ctb.memory := by
  rw [withdrawMembers_eq, ← naturalEnd_eq, ← naturalEnd_eq]
  simp only [naturalEnd_frame]
  exact checkSlots_memory (withRetired segs (withdrawnFrom s segs)) _

theorem withdrawMembers_quiet {s : State} (quiet : s.requestWaits = false) : (s.withdrawMembers segs).cmd = s.cmd := by
  rw [withdrawMembers_eq, ← naturalEnd_eq, ← naturalEnd_eq]
  simp only [naturalEnd_frame]
  exact checkSlots_quiet (s := withRetired segs (withdrawnFrom s segs)) quiet _

theorem withdrawnFrom_ctx (c : Ctx) : (withdrawnFrom s segs).exc.ctx c = (s.ctx c).withdraw segs := by cases c <;> rfl

theorem withdrawMembers_progress {c : Ctx} (open_ : (s.ctx c).isOpen = true) :
    ((s.withdrawMembers segs).exc.ctx c).progress =
      (s.ctx c).progress.map fun r => if r.seg ∈ segs then { r with withdrawn := true } else r := by
  have checked : BothCountsKept (withdrawnFrom s segs).exc (checkedFrom s segs).exc :=
    checkSlots_counts (withRetired segs (withdrawnFrom s segs)) _
  rw [((withdrawMembers_endKept s segs).counts c).progress, (checked c).progress, withdrawnFrom_ctx, withdraw_eq,
    if_pos open_]

theorem withdrawMembers_cat : ∃ test, (s.withdrawMembers segs).cat = (retireCat segs s.cat).unmarked test := by
  obtain ⟨test, cat⟩ := (withdrawMembers_endKept s segs).cat
  have checked : (checkedFrom s segs).cat = retireCat segs s.cat := by
    rw [checkedFrom, (checkSlots_frame ..).2.1]
    rfl
  exact ⟨test, checked ▸ cat⟩

end Withdrawal

/-- An entry's number and segment. -/
def entryKey (e : Nat × Entry) : Nat × Nat := (e.1, e.2.seg)

theorem unmarked_keys (c : Cat) (test : Marker → Bool) :
    (c.unmarked test).entries.map entryKey = c.entries.map entryKey := by
  rw [Cat.unmarked, List.map_map]
  refine List.map_congr_left fun e _ => ?_
  simp only [Function.comp_apply, entryKey]
  split <;> rfl

theorem retireCat_keys (segs : List Nat) (c : Cat) : (retireCat segs c).entries.map entryKey = c.entries.map entryKey := by
  rw [retireCat, List.map_map]
  refine List.map_congr_left fun e _ => ?_
  simp only [Function.comp_apply, entryKey, retiredEntry_seg]

theorem filter_keys (l : List (Nat × Entry)) (p : Nat → Bool) :
    (l.filter fun e => p e.2.seg).map entryKey = (l.map entryKey).filter fun k => p k.2 := by
  rw [List.filter_map]
  rfl

theorem vacateMembers_keys (s : State) (segs : List Nat) : (s.vacateMembers segs).cat.entries.map entryKey =
    (s.cat.entries.map entryKey).filter fun k => !segs.contains k.2 := by
  rw [← filter_keys _ fun seg => !segs.contains seg, State.vacateMembers]
  simp only [List.contains_eq_mem]
  rfl

theorem vacateMembers_workDone (s : State) (segs : List Nat) : (s.vacateMembers segs).att = s.att.raise .workDone := rfl

theorem vacateMembers_cat (s : State) (segs : List Nat) :
    (s.vacateMembers segs).cat.batch = .closed ∧ (s.vacateMembers segs).cat.epoch = s.cat.epoch ∧
      (s.vacateMembers segs).cat.staging = s.cat.staging ∧ (s.vacateMembers segs).cat.stamps = s.cat.stamps := by
  rw [State.vacateMembers, disturb_eq]
  exact ⟨rfl, rfl, rfl, rfl⟩

theorem workDone_stays (flags m : BitVec 9) : ((flags ||| Cause.workDone.mask) ||| m).getLsbD 8 = true := by
  rw [BitVec.getLsbD_or, BitVec.getLsbD_or, show Cause.workDone.mask.getLsbD 8 = true from rfl, Bool.or_true, Bool.true_or]

/-- What a withdrawal leaves, whatever the state it is taken in. -/
theorem batchWithdrawal_leaves (s : State) (segs : List Nat) :
    let t := ((s.withdrawMembers segs).vacateMembers segs).serveLatch.takeHead
    t.cat.batch = .closed ∧ t.att.flags.getLsbD 8 = true ∧
      t.cat.epoch = s.cat.epoch ∧ t.cat.staging = s.cat.staging ∧ t.cat.stamps = s.cat.stamps ∧
      t.cmd.long = s.cmd.long ∧ t.cmd.last = s.cmd.last ∧ t.cmd.store = s.cmd.store ∧
      (s.requestWaits = false → t.cmd = s.cmd) ∧ t.ple = s.ple ∧ t.part = s.part ∧ t.ctb.memory = s.ctb.memory ∧
      (t.cat.entries.map fun e => (e.1, e.2.seg)) =
        ((s.cat.entries.filter fun e => !(segs.contains e.2.seg)).map fun e => (e.1, e.2.seg)) ∧
      ∀ c : Ctx, (s.ctx c).isOpen = true →
        (t.ctx c).progress = (s.ctx c).progress.map fun r =>
          if segs.contains r.seg then { r with withdrawn := true } else r := by
  intro t
  let v := (s.withdrawMembers segs).vacateMembers segs
  have kept : EndKept v t := endKept_trans (serveLatch_endKept v) (takeHead_endKept _)
  obtain ⟨counts, ⟨test, cat⟩, ⟨m, flags⟩⟩ := kept
  obtain ⟨test', withdrawn⟩ := withdrawMembers_cat s segs
  obtain ⟨batch, epoch, staging, stamps⟩ := vacateMembers_cat (s.withdrawMembers segs) segs
  have cmd : t.cmd = (s.withdrawMembers segs).cmd := by simp [t]
  rw [withdrawn] at epoch staging stamps
  refine ⟨?_, ?_, ?_, ?_, ?_, ?_, ?_, ?_, fun quiet => ?_, ?_, ?_, ?_, ?_, fun c open_ => ?_⟩
  · rw [cat]
    exact batch
  · rw [flags, vacateMembers_workDone]
    exact workDone_stays _ m
  · rw [cat]
    exact epoch
  · rw [cat]
    exact staging
  · rw [cat]
    exact stamps
  · rw [cmd]
    simp
  · rw [cmd]
    simp
  · rw [cmd]
    simp
  · rw [cmd, withdrawMembers_quiet segs quiet]
  · simp [t]
  · simp [t]
  · have latch : v.serveLatch.ctb = v.ctb := by simp
    rw [takeHead_memory, latch]
    exact withdrawMembers_memory s segs
  · refine Eq.trans (b := t.cat.entries.map entryKey) rfl ?_
    rw [cat, unmarked_keys, vacateMembers_keys, withdrawn, unmarked_keys, retireCat_keys,
      ← filter_keys _ fun seg => !segs.contains seg]
    rfl
  · have progress := withdrawMembers_progress s segs open_
    simp only [List.contains_eq_mem, decide_eq_true_eq]
    exact (counts c).progress.trans progress

/-! ### The withdrawal, slot by slot -/

theorem giveUps_frame (k : Completeness) (s : State) (ns : List Nat) :
    (ns.foldl (giveUp k) s).cat = s.cat ∧ (ns.foldl (giveUp k) s).ple = s.ple := by
  refine ⟨foldl_keeps (fun s : State => s.cat) _ (fun s n => ?_) ns s, foldl_keeps (fun s : State => s.ple) _
    (fun s n => giveUp_ple n) ns s⟩
  rw [giveUp]
  split <;> simp

theorem memberSlot_found (segs : List Nat) (holds : Bool) (e : Slot) :
    (checkPasses holds e && memberSlot segs e) =
      (e.found && (e.contributors.any fun q => decide (q.seg ∈ segs)) && !(e.pinned && holds)) := by
  have opened : e.found = true → (e.state == .opened) = true := fun h => by
    simp only [Slot.found, Bool.and_eq_true] at h
    exact h.1.1
  rw [checkPasses, memberSlot]
  cases found : e.found with
  | false => rfl
  | true =>
    rw [opened found]
    simp only [Bool.true_and, Bool.and_comm]

theorem withdrawnFrom_touch (s : State) (segs : List Nat) : (withdrawnFrom s segs).ctb.touch = s.ctb.touch := rfl

/-- The checks of a withdrawal, the catalogue aside. -/
theorem checkedFrom_eq {s : State} (ok : s.slotsConsistent) (segs : List Nat) : ∃ taken,
    ((withdrawnFrom s segs).givenUp taken
      ((withdrawnFrom s segs).ctb.touched fun e => e.found && (e.contributors.any fun q => decide (q.seg ∈ segs)) &&
        !(e.pinned && s.rowHolds)) .complete).cat = s.cat ∧
    checkedFrom s segs = withRetired segs ((withdrawnFrom s segs).givenUp taken
      ((withdrawnFrom s segs).ctb.touched fun e => e.found && (e.contributors.any fun q => decide (q.seg ∈ segs)) &&
        !(e.pinned && s.rowHolds)) .complete) := by
  have wf : (withdrawnFrom s segs).ctb.slots.wf = true := table_wf_map s.ctb.slots (fun e => e.2.withdraw segs) ok.1
  have distinct : (withdrawnFrom s segs).ctb.touch.Nodup := touch_nodup_of (s := s) ok
  let ns := (withdrawnFrom s segs).ctb.touched fun e =>
    e.found && (e.contributors.any fun q => decide (q.seg ∈ segs)) && !(e.pinned && s.rowHolds)
  obtain ⟨taken, all⟩ := giveUps_eq wf (touched_nodup distinct _ : ns.Nodup) (fun n hn => read_of_touched hn) .complete
  have cat : ((withdrawnFrom s segs).givenUp taken ns .complete).cat = s.cat := by
    rw [← all]
    exact (giveUps_frame .complete _ ns).1
  have ple : ((withdrawnFrom s segs).givenUp taken ns .complete).ple = s.ple := by
    rw [← all]
    exact (giveUps_frame .complete _ ns).2
  refine ⟨taken, cat, ?_⟩
  rw [checkedFrom, checkSlots_eq (s := withRetired segs (withdrawnFrom s segs)) wf distinct,
    touched_congr _ (memberSlot_found segs _)]
  refine (giveUps_beside (retireCat segs s.cat) s.ple .complete (withdrawnFrom s segs) ns).trans ?_
  rw [all, beside, withRetired, cat, ← ple]

/-- Settles O29: what the withdrawal leaves, then the withdrawal slot by slot. -/
theorem batchWithdrawalVacatesEveryMember : Obligations.BatchWithdrawalVacatesEveryMember := by
  intro s applying free segs
  have run := exec_batchWithdrawal applying free
  refine ⟨⟨_, run, batchWithdrawal_leaves s segs⟩, fun ok => ?_⟩
  intro x withdrawn complete
  obtain ⟨taken, cat, checked⟩ := checkedFrom_eq ok segs
  refine ⟨taken, ?_⟩
  intro u t
  have sign : u.cat.sign = s.cat.sign := by
    obtain ⟨-, ⟨test, ended⟩, -⟩ := endKept_trans
      (naturallyEnded_endKept (withdrawn.givenUp taken complete .complete) .A) (naturallyEnded_endKept _ .B)
    rw [show u.cat = _ from ended]
    exact (congrArg Cat.sign cat :)
  have whole : (s.withdrawMembers segs).vacateMembers segs = t := by
    rw [withdrawMembers_eq, ← checkedFrom, checked, naturallyEnded_withRetired, naturallyEnded_withRetired,
      vacateMembers_withRetired]
    exact congrArg (fun g => ({ u with
      cat := { u.cat with
        entries := u.cat.entries.filter fun e => decide (e.2.seg ∉ segs)
        batch := .closed
        sign := g }
      att := { u.att with flags := u.att.flags ||| 0b100000000#9 } } : State)) (congrArg (Signature.afterAll · segs) sign)
  rw [run, ← whole]

end Sys2Proof.Proofs

/-! ## Proofs: the steps after a row (R87, R104, R105, R108) -/

namespace Sys2Proof.Proofs

open Sys2Proof Sys2Proof.Machine Sys2Proof.Laws

/-! ### Progress (R104) -/

/-- A context with its segment's progress past a row. -/
def rowPassed (x : Context) (k : Commit) : Context :=
  { x with progress := x.progress.map fun r => if r.seg = k.seg then { r with next := k.row + 1 } else r }

theorem changeCtx_passed (s : State) (k : Commit) :
    (s.changeCtx k.ctx fun x => x.advance k.seg k.row) = { s with exc := s.exc.setCtx k.ctx (rowPassed (s.ctx k.ctx) k) } :=
  rfl

theorem resolved_setCtx {s : State} {c : Ctx} {y : Context} (h : y.isOpen = (s.ctx c).isOpen ∧ y.epoch = (s.ctx c).epoch)
    (seg : Nat) : State.resolved { s with exc := s.exc.setCtx c y } c seg = s.resolved c seg := by
  have same (e : Entry) : y.resolve e = (s.ctx c).resolve e := by
    rw [Context.resolve, Context.resolve, h.1, h.2]
  simp only [State.resolved, State.ctx, ctx_setCtx_self, same]

theorem count_ctx_self (s : State) (c : Ctx) (f : Summary → Summary) : (s.count c f).exc.ctx c = (s.ctx c).count f :=
  ctx_setCtx_self ..

theorem count_progress (x : Context) (f : Summary → Summary) : (x.count f).progress = x.progress := by
  rw [Context.count]
  split <;> rfl

theorem advanceProgress_progress (s : State) (k : Commit) :
    ((s.advanceProgress k).exc.ctx k.ctx).progress = (rowPassed (s.ctx k.ctx) k).progress := by
  simp only [State.advanceProgress, changeCtx_passed]
  split
  · split
    · rw [count_ctx_self, count_progress, State.ctx, ctx_setCtx_self]
    · rw [ctx_setCtx_self]
  · rw [ctx_setCtx_self]

theorem advanceProgress_accepted (s : State) (k : Commit) :
    ((s.advanceProgress k).exc.ctx k.ctx).summary.accepted = (s.ctx k.ctx).summary.accepted := by
  have counted (x : Context) : (x.count fun m => { m with finished := countUp m.finished }).summary.accepted =
      x.summary.accepted := by
    rw [Context.count]
    split <;> rfl
  simp only [State.advanceProgress, changeCtx_passed]
  split
  · split
    · rw [count_ctx_self, counted, State.ctx, ctx_setCtx_self]
      rfl
    · rw [ctx_setCtx_self]
      rfl
  · rw [ctx_setCtx_self]
    rfl

/-- A context with its segment's progress past a row, and a finished segment counted. -/
def rowCounted (x : Context) (k : Commit) (v : Version) : Context :=
  { rowPassed x k with summary := { x.summary with
    finished := if k.row + 1 = v.rows then countUp x.summary.finished else x.summary.finished } }

theorem advanceProgress_eq {s : State} {k : Commit} {v : Version} (resolved : s.resolved k.ctx k.seg = some v)
    (open_ : (s.ctx k.ctx).isOpen = true) (running : (s.ctx k.ctx).summary.fixed = none) :
    s.advanceProgress k = { s with exc := s.exc.setCtx k.ctx (rowCounted (s.ctx k.ctx) k v) } := by
  let p : State := { s with exc := s.exc.setCtx k.ctx (rowPassed (s.ctx k.ctx) k) }
  have still : p.resolved k.ctx k.seg = some v := 
    (resolved_setCtx (y := rowPassed (s.ctx k.ctx) k) ⟨rfl, rfl⟩ k.seg).trans resolved
  have ctx : p.ctx k.ctx = rowPassed (s.ctx k.ctx) k := ctx_setCtx_self ..
  have counted (f : Summary → Summary) : p.count k.ctx f = { s with exc := (s.exc.setCtx k.ctx
      { rowPassed (s.ctx k.ctx) k with summary := f (s.ctx k.ctx).summary }) } := by
    rw [count_of_counted (s := p) (by rw [ctx]; exact open_) (by rw [ctx]; exact running), State.withSummary, ctx]
    exact congrArg (fun x => ({ s with exc := x } : State)) (setCtx_setCtx ..)
  have advance : s.advanceProgress k = match p.resolved k.ctx k.seg with
      | some v => if k.row + 1 = v.rows then p.count k.ctx fun m => { m with finished := countUp m.finished } else p
      | none => p := rfl
  rw [advance, still]
  simp only [rowCounted]
  split
  · exact counted _
  · rfl

/-! ### The touch order (R105 step 3, R121) -/

theorem touchBacks_eq {ns touch : List Nat} (distinct : ns.Nodup) (inside : ∀ n ∈ ns, n ∈ touch) :
    ns.foldl touchBack touch = (touch.filter fun n => decide (n ∉ ns)) ++ ns := by
  induction ns generalizing touch with
  | nil => simp
  | cons n ns ih =>
    obtain ⟨fresh, distinct⟩ := List.nodup_cons.1 distinct
    have back : touchBack touch n = (touch.filter fun i => decide (i ∉ [n])) ++ [n] := by
      rw [touchBack, if_pos (inside n List.mem_cons_self), removeTouch_one]
    have later (m : Nat) (hm : m ∈ ns) : m ∈ touchBack touch n := by
      rw [back, List.mem_append, List.mem_filter]
      exact .inl ⟨inside m (List.mem_cons_of_mem n hm), decide_eq_true fun at_ => fresh (List.mem_singleton.1 at_ ▸ hm)⟩
    have filters : ((touch.filter fun i => decide (i ∉ [n])).filter fun i => decide (i ∉ ns)) =
        touch.filter fun i => decide (i ∉ n :: ns) := by
      rw [List.filter_filter]
      congr 1
      funext i
      rw [← Bool.decide_and]
      simp [and_comm]
    rw [List.foldl_cons, ih distinct later, back, List.filter_append, filters,
      show [n].filter (fun i => decide (i ∉ ns)) = [n] from List.filter_cons_of_pos (decide_eq_true fresh), List.append_assoc]
    rfl

theorem index_eq_some {t : Ctb} (wf : t.slots.wf = true) {c : Ctx} {cell : CellIndex} {n : Nat}
    (h : t.index c cell = some n) : ∃ e, t.slots.read n = some e ∧ e.state = .opened ∧ e.cell = cell := by
  obtain ⟨⟨i, e⟩, found, rfl⟩ := Option.map_eq_some_iff.1 h
  have test := List.find?_some found
  simp only [Bool.and_eq_true, beq_iff_eq] at test
  exact ⟨e, read_eq_some_of_mem wf (List.mem_of_find?_eq_some found), test.1.1, test.2⟩

/-- The slots of distinct cells are distinct. -/
theorem indexed_nodup {t : Ctb} (wf : t.slots.wf = true) (c : Ctx) {cells : List CellIndex} (distinct : cells.Nodup) :
    (cells.filterMap (t.index c)).Nodup := by
  refine distinct.filterMap fun a b n ha hb => ?_
  obtain ⟨e, read, -, rfl⟩ := index_eq_some wf (Option.mem_def.1 ha)
  obtain ⟨e', read', -, rfl⟩ := index_eq_some wf (Option.mem_def.1 hb)
  rw [Option.some_inj.1 (read.symm.trans read')]

theorem indexed_touched {t : Ctb} {out : List Nat} {current : Option Nat} (ok : TableOk t out current) (c : Ctx)
    (cells : List CellIndex) : ∀ n ∈ cells.filterMap (t.index c), n ∈ t.touch := by
  intro n hn
  obtain ⟨cell, -, index⟩ := List.mem_filterMap.1 hn
  obtain ⟨e, read, opened, -⟩ := index_eq_some ok.wf index
  exact (ok.touch_iff n).2 (slotState_eq_some.2 ⟨e, read, opened⟩)

/-! ### The strip accepted (R87) -/

theorem refusalsCounted_accepted (x : Exc) (l : List Nat) : x.refusalsCounted l .accepted = x := by
  have same (y : Context) (n : Nat) : y.refusedBy .accepted n = y := by
    have counts : (y.summary.refusals.mapIdx fun i r =>
        if i + 1 = VerdictCode.accepted.toNat then raisedBy 4294967295 r n else r) = y.summary.refusals := by
      ext i
      simp [VerdictCode.toNat]
    unfold Context.refusedBy
    rw [counts]
    split <;> rfl
  simp only [Exc.refusalsCounted, same]

theorem acceptStrip_eq (s : State) (k : Commit) : s.acceptStrip k = { s with
    ports := s.ports.set k.port (verdictGiven s.ports[k.port] k.buffer
      { seg := k.seg, first := k.first, code := .accepted, next := s.exc.nextExpected k.exposure k.seg })
    cat := (s.cat.unmarked fun m => m == { port := k.port, buffer := k.buffer }).acceptedReport k.seg } := by
  rw [State.acceptStrip, giveVerdict_eq, refusalsCounted_accepted, ← clearMarker_eq]
  simp only [State.freeBuffer, State.changePort, set_entry_self, Vector.set_set, queue_eq]
  rfl

end Sys2Proof.Proofs

/-! ## Proofs: what a row's end leaves (R104, R105, R108) -/

namespace Sys2Proof.Proofs

open Sys2Proof Sys2Proof.Machine Sys2Proof.Laws

/-- The part after progress and cells of a row's end. -/
def rowEnded (s : State) (k : Commit) : State :=
  ((withCommit s { k with phase := .advance }).advanceProgress k).advanceCells k

theorem exec_rowAdvance {s : State} {k : Commit} (commit : s.ple.commit = some k) (place : k.phase = .place)
    (all : k.cols ≤ k.col) : exec .rowAdvance s = .next
      (if k.row + 1 < k.first + k.count then ((rowEnded s k).changeCommit fun m => m.nextRow).takeHead
        else ((rowEnded s k).completeCommit k).takeHead) := by
  rw [show exec .rowAdvance s = execRowAdvance s from rfl, execRowAdvance, commit]
  simp only [place, all, and_self, if_true, changeCommit_eq commit]
  split <;> rfl

/-- The slots a row's end checks. -/
def rowSlot (k : Commit) (e : Slot) : Bool := e.endsAt k || (e.state == .opened && e.pinned)

theorem advanceCells_eq (s : State) (k : Commit) : s.advanceCells k =
    ((State.checkSlots { s with ctb := { s.ctb with slots := s.ctb.slots.map fun e => (e.1, e.2.finishRow k) } }
      (rowSlot k)).touchRow k).unpin := rfl

section Cells

variable (s : State) (k : Commit)

theorem advanceCells_counts : BothCountsKept s.exc (s.advanceCells k).exc := by
  rw [advanceCells_eq]
  simp only [unpin_frame, touchRow_frame]
  exact checkSlots_counts { s with ctb := { s.ctb with slots := s.ctb.slots.map fun e => (e.1, e.2.finishRow k) } } _

theorem advanceCells_memory : (s.advanceCells k).ctb.memory = s.ctb.memory :=
  checkSlots_memory { s with ctb := { s.ctb with slots := s.ctb.slots.map fun e => (e.1, e.2.finishRow k) } } _

theorem advanceCells_quiet {s : State} (quiet : s.requestWaits = false) (k : Commit) : (s.advanceCells k).cmd = s.cmd := by
  rw [advanceCells_eq]
  simp only [unpin_frame, touchRow_frame]
  exact checkSlots_quiet
    (s := { s with ctb := { s.ctb with slots := s.ctb.slots.map fun e => (e.1, e.2.finishRow k) } }) quiet _

/-- No slot is pinned. -/
def Unpinned (t : Ctb) : Prop := ∀ e ∈ t.slots, e.2.pinned = false

theorem unpin_unpinned : Unpinned s.unpin.ctb := by
  intro e he
  obtain ⟨e', -, rfl⟩ := List.mem_map.1 he
  rfl

theorem takeHead_unpinned (h : Unpinned s.ctb) : Unpinned s.takeHead.ctb := by
  rw [State.takeHead]
  split
  · split
    · exact h
    · intro e he
      obtain ⟨e', he', rfl⟩ := List.mem_map.1 he
      simp only
      split <;> exact h e' he'
    · exact h
  · exact h

end Cells

section RowEnded

variable (s : State) (k : Commit)

theorem rowEnded_counts :
    BothCountsKept ((withCommit s { k with phase := .advance }).advanceProgress k).exc (rowEnded s k).exc :=
  advanceCells_counts _ k

theorem rowEnded_progress : ((rowEnded s k).exc.ctx k.ctx).progress = (rowPassed (s.ctx k.ctx) k).progress :=
  ((rowEnded_counts s k) k.ctx).progress.trans (advanceProgress_progress (withCommit s { k with phase := .advance }) k)

theorem rowEnded_accepted : ((rowEnded s k).exc.ctx k.ctx).summary.accepted = (s.ctx k.ctx).summary.accepted :=
  ((rowEnded_counts s k) k.ctx).accepted.trans (advanceProgress_accepted (withCommit s { k with phase := .advance }) k)

theorem rowEnded_finished {v : Version} (resolved : s.resolved k.ctx k.seg = some v) (open_ : (s.ctx k.ctx).isOpen = true)
    (running : (s.ctx k.ctx).summary.fixed = none) : ((rowEnded s k).exc.ctx k.ctx).summary.finished =
      if k.row + 1 = v.rows then countUp (s.ctx k.ctx).summary.finished else (s.ctx k.ctx).summary.finished := by
  refine ((rowEnded_counts s k) k.ctx).finished.trans ?_
  rw [advanceProgress_eq (s := withCommit s { k with phase := .advance }) resolved open_ running]
  exact (congrArg (fun x : Context => x.summary.finished) (ctx_setCtx_self ..) :)

theorem rowEnded_counted (open_ : (s.ctx k.ctx).isOpen = true) (running : (s.ctx k.ctx).summary.fixed = none) :
    ((rowEnded s k).ctx k.ctx).isOpen = true ∧ ((rowEnded s k).ctx k.ctx).summary.fixed = none := by
  refine counted_of_kept (s := withCommit s { k with phase := .advance }) (excKept_trans (advanceProgress_kept _ k) ?_)
    open_ running
  exact advanceCells_kept _ k

theorem rowEnded_memory : (rowEnded s k).ctb.memory = s.ctb.memory := by
  rw [rowEnded, advanceCells_memory]
  simp [withCommit]

theorem rowEnded_quiet {s : State} (quiet : s.requestWaits = false) (k : Commit) : (rowEnded s k).cmd = s.cmd := by
  have same : ((withCommit s { k with phase := .advance }).advanceProgress k).requestWaits = false := by
    simp only [State.requestWaits, advanceProgress_frame]
    exact quiet
  rw [rowEnded, advanceCells_quiet same]
  simp [withCommit]

theorem rowEnded_unpinned : Unpinned (rowEnded s k).ctb := unpin_unpinned _

/-- What a row's end leaves of the rest of the part. -/
theorem rowEnded_frame : (rowEnded s k).ports = s.ports ∧ (rowEnded s k).cat = s.cat ∧ (rowEnded s k).params = s.params ∧
    (rowEnded s k).cmd.long = s.cmd.long ∧ (rowEnded s k).cmd.last = s.cmd.last ∧
    (rowEnded s k).cmd.store = s.cmd.store := by
  simp [rowEnded, withCommit]

end RowEnded

/-! ### The commit completes -/

/-- The part after the strip was accepted and counted, the engine IDLE. -/
def stripCounted (u : State) (k : Commit) : State :=
  { (u.acceptStrip k).count k.ctx fun m => { m with accepted := countUp m.accepted } with ple.commit := none }

theorem completeCommit_eq (u : State) (k : Commit) :
    u.completeCommit k = ((stripCounted u k).naturallyEnded k.ctx).arbitrate := by
  rw [← naturalEnd_eq]
  rfl

section Complete

variable (u : State) (k : Commit)

theorem completeCommit_endKept : EndKept (stripCounted u k) (u.completeCommit k).takeHead := by
  rw [completeCommit_eq]
  refine endKept_trans (naturallyEnded_endKept _ k.ctx) (endKept_trans ?_ (takeHead_endKept _))
  exact endKept_of (bothCountsKept_of_ctx fun c => by simp) (by simp) (by simp)

theorem stripCounted_exc : (stripCounted u k).exc = u.exc.setCtx k.ctx
    ((u.ctx k.ctx).count fun m => { m with accepted := countUp m.accepted }) := by
  rw [stripCounted, acceptStrip_eq]
  rfl

theorem stripCounted_cat : (stripCounted u k).cat =
    (u.cat.unmarked fun m => m == { port := k.port, buffer := k.buffer }).acceptedReport k.seg := by
  rw [stripCounted, acceptStrip_eq]
  rfl

theorem stripCounted_progress : ((stripCounted u k).exc.ctx k.ctx).progress = (u.exc.ctx k.ctx).progress := by
  rw [stripCounted_exc, ctx_setCtx_self, count_progress]
  rfl

theorem stripCounted_finished :
    ((stripCounted u k).exc.ctx k.ctx).summary.finished = (u.exc.ctx k.ctx).summary.finished := by
  rw [stripCounted_exc, ctx_setCtx_self, Context.count]
  split <;> rfl

theorem stripCounted_accepted {u : State} {k : Commit} (open_ : (u.ctx k.ctx).isOpen = true)
    (running : (u.ctx k.ctx).summary.fixed = none) :
    ((stripCounted u k).exc.ctx k.ctx).summary.accepted = countUp (u.exc.ctx k.ctx).summary.accepted := by
  rw [stripCounted_exc, ctx_setCtx_self, Context.count, if_pos (by simp [open_, running])]
  rfl

end Complete

/-- An entry's marker, segment and broken count after markers were cleared. -/
theorem mem_unmarked {c : Cat} {test : Marker → Bool} {e : Nat × Entry} (h : e ∈ (c.unmarked test).entries) :
    ∃ e' ∈ c.entries, e.2.seg = e'.2.seg ∧ e.2.broken = e'.2.broken ∧
      (e.2.marker = none ∨ e.2.marker = e'.2.marker ∧ ¬e'.2.marker.any test = true) := by
  obtain ⟨e', mem, rfl⟩ := List.mem_map.1 h
  refine ⟨e', mem, ?_⟩
  simp only
  split
  · exact ⟨rfl, rfl, .inl rfl⟩
  · exact ⟨rfl, rfl, .inr ⟨rfl, ‹_›⟩⟩

theorem acceptedReport_entry {c : Cat} {seg : Nat} {e : Nat × Entry} (h : e ∈ (c.acceptedReport seg).entries) :
    (e.2.seg = seg → e.2.broken = 0) ∧ ∃ e' ∈ c.entries, e.2.marker = e'.2.marker := by
  obtain ⟨e', mem, rfl⟩ := List.mem_map.1 h
  simp only
  split
  · exact ⟨fun _ => rfl, e', mem, rfl⟩
  · exact ⟨fun same => absurd same ‹_›, e', mem, rfl⟩

theorem stripCounted_entry {u : State} {k : Commit} {e : Nat × Entry} (h : e ∈ (stripCounted u k).cat.entries) :
    (e.2.seg = k.seg → e.2.broken = 0) ∧ e.2.marker ≠ some { port := k.port, buffer := k.buffer } := by
  rw [stripCounted_cat] at h
  obtain ⟨broken, e', mem, marker⟩ := acceptedReport_entry h
  refine ⟨broken, fun named => ?_⟩
  obtain ⟨e'', -, -, -, cleared | ⟨same, other⟩⟩ := mem_unmarked mem
  · rw [marker, cleared] at named
    nomatch named
  · rw [← same, ← marker, named] at other
    exact other (by simp)

end Sys2Proof.Proofs

/-! ## Proofs: row advance (R104, R105, R108) -/

namespace Sys2Proof.Proofs

open Sys2Proof Sys2Proof.Machine Sys2Proof.Laws

/-! ### What it leaves, whatever the state it is taken in -/

section Leaves

variable (s : State) (k : Commit)

/-- What a row advance leaves, from the part after the row's end on. -/
theorem rowAdvance_leaves {t : State} (ended : EndKept (rowEnded s k) t ∨ EndKept (stripCounted (rowEnded s k) k) t)
    (ctb : ∃ u : State, u.ctb = (rowEnded s k).ctb ∧ t.ctb = u.takeHead.ctb) (cmd : t.cmd = (rowEnded s k).cmd)
    (params : t.params = (rowEnded s k).params) :
    let x := s.ctx k.ctx
    (t.ctx k.ctx).progress = x.progress.map (fun r => if r.seg = k.seg then { r with next := k.row + 1 } else r) ∧
      (x.isOpen = true → x.summary.fixed = none → ∀ v, s.resolved k.ctx k.seg = some v →
        (t.ctx k.ctx).summary.finished = if k.row + 1 = v.rows then countUp x.summary.finished else x.summary.finished) ∧
      (∀ n e, t.ctb.slots.read n = some e → e.pinned = false) ∧
      t.ctb.memory = s.ctb.memory ∧ t.params = s.params ∧ t.cat.epoch = s.cat.epoch ∧ t.cmd.long = s.cmd.long ∧
      t.cmd.last = s.cmd.last ∧ t.cmd.store = s.cmd.store ∧ (s.requestWaits = false → t.cmd = s.cmd) := by
  intro x
  obtain ⟨-, cat_, params_, long, last, store⟩ := rowEnded_frame s k
  obtain ⟨u, same, taken⟩ := ctb
  have kept : (t.ctx k.ctx).progress = ((rowEnded s k).exc.ctx k.ctx).progress ∧
      (t.ctx k.ctx).summary.finished = ((rowEnded s k).exc.ctx k.ctx).summary.finished := by
    rcases ended with ended | ended
    · exact ⟨(ended.counts k.ctx).progress, (ended.counts k.ctx).finished⟩
    · exact ⟨(ended.counts k.ctx).progress.trans (stripCounted_progress ..),
        (ended.counts k.ctx).finished.trans (stripCounted_finished ..)⟩
  have epoch : t.cat.epoch = (rowEnded s k).cat.epoch := by
    rcases ended with ended | ended <;> obtain ⟨test, cat⟩ := ended.cat <;> rw [cat]
    · rfl
    · rw [stripCounted_cat]
      rfl
  refine ⟨kept.1.trans (rowEnded_progress s k), fun open_ running v resolved =>
    kept.2.trans (rowEnded_finished s k resolved open_ running), fun n e read => ?_, ?_, params.trans params_, ?_, ?_, ?_, ?_,
    fun quiet => cmd.trans (rowEnded_quiet quiet k)⟩
  · rw [taken] at read
    exact takeHead_unpinned u (by rw [same]; exact rowEnded_unpinned s k) _ (mem_of_read_eq_some read)
  · rw [taken, takeHead_memory, same, rowEnded_memory]
  · rw [epoch, cat_]
  · rw [cmd, long]
  · rw [cmd, last]
  · rw [cmd, store]

end Leaves

/-! ### Slot by slot -/

section SlotBySlot

variable {s : State} {k : Commit}

/-- The part after progress moved and the row's contributors were DONE. -/
def rowDone (s : State) (k : Commit) (v : Version) : State := { s with
  exc := s.exc.setCtx k.ctx (rowCounted (s.ctx k.ctx) k v)
  ctb := { s.ctb with slots := s.ctb.slots.map fun e => (e.1, e.2.finishRow k) } }

theorem finishRow_eq (e : Slot) (k : Commit) : e.finishRow k = if e.endsAt k = true then
    { e with contributors := e.contributors.map fun q =>
      if q.seg = k.seg ∧ q.last = k.row ∧ q.state = .expected then { q with state := .done } else q } else e := by
  have ends (q : Contributor) : (k.ends q = true ∧ q.state = .expected) ↔
      (q.seg = k.seg ∧ q.last = k.row ∧ q.state = .expected) := by
    simp only [Commit.ends, Bool.and_eq_true, beq_iff_eq, and_assoc]
  rw [Slot.finishRow]
  simp only [ends]

theorem rowSlot_found (k : Commit) (e : Slot) :
    (checkPasses false e && rowSlot k e) = (e.found && (e.endsAt k || e.pinned)) := by
  have opened : e.found = true → (e.state == .opened) = true := fun h => by
    simp only [Slot.found, Bool.and_eq_true] at h
    exact h.1.1
  rw [checkPasses, rowSlot]
  cases found : e.found with
  | false => rfl
  | true =>
    rw [opened found]
    simp only [Bool.true_and, Bool.and_false, Bool.not_false]

/-- The slots the row's end completes. -/
def rowCompleted (s : State) (k : Commit) (v : Version) : List Nat :=
  (rowDone s k v).ctb.touched fun e => e.found && (e.endsAt k || e.pinned)

/-- The part after the row's slots moved to the back of the touch order and its pins were released. -/
def rowUnpinned (u : State) (k : Commit) : State :=
  let moved := k.touched.filterMap (u.ctb.index k.ctx)
  { u with ctb := { u.ctb with
    touch := (u.ctb.touch.filter fun n => decide (n ∉ moved)) ++ moved
    slots := u.ctb.slots.map fun e => (e.1, { e.2 with pinned := false }) } }

theorem giveUps_ports (k : Completeness) (s : State) (ns : List Nat) : (ns.foldl (giveUp k) s).ports = s.ports :=
  foldl_keeps (fun s : State => s.ports) _ (fun s n => by
    rw [giveUp]
    split <;> simp) ns s

theorem rowEnded_eq {v : Version} (resolved : s.resolved k.ctx k.seg = some v) (open_ : (s.ctx k.ctx).isOpen = true)
    (running : (s.ctx k.ctx).summary.fixed = none) (ok : s.slotsConsistent) (distinct : k.touched.Nodup) :
    ∃ taken, let u := (rowDone s k v).givenUp taken (rowCompleted s k v) .complete
      u.cat = s.cat ∧ u.ports = s.ports ∧ u.ple = s.ple ∧
        rowEnded s k = withCommit (rowUnpinned u k) { k with phase := .advance } := by
  have wf : (rowDone s k v).ctb.slots.wf = true := table_wf_map s.ctb.slots (fun e => e.2.finishRow k) ok.1
  have touch : (rowDone s k v).ctb.touch.Nodup := touch_nodup_of (s := s) ok
  obtain ⟨taken, all⟩ := giveUps_eq wf (touched_nodup touch _ : (rowCompleted s k v).Nodup)
    (fun n hn => read_of_touched hn) .complete
  let u := (rowDone s k v).givenUp taken (rowCompleted s k v) .complete
  let p : Ple := { s.ple with commit := some { k with phase := .advance } }
  have all : (rowCompleted s k v).foldl (giveUp .complete) (rowDone s k v) = u := all
  have cat : u.cat = s.cat := all ▸ (giveUps_frame .complete (rowDone s k v) _).1
  have ple : u.ple = s.ple := all ▸ (giveUps_frame .complete (rowDone s k v) _).2
  have ports : u.ports = s.ports := all ▸ giveUps_ports .complete (rowDone s k v) _
  have checked : State.checkSlots (beside s.cat p (rowDone s k v)) (rowSlot k) = beside s.cat p u := by
    rw [checkSlots_eq (s := beside s.cat p (rowDone s k v)) wf touch,
      show (beside s.cat p (rowDone s k v)).rowHolds = false from rfl, touched_congr _ (rowSlot_found k)]
    refine (giveUps_beside s.cat p .complete (rowDone s k v) (rowCompleted s k v)).trans ?_
    rw [all]
  have moves : CellMoves s.ctb u.ctb := by
    have finished : CellMoves s.ctb (rowDone s k v).ctb :=
      cellMoves_mapSlots (fun e => e.finishRow k) (fun e => finishRow_state e k) rfl (fun _ => .refl _) rfl rfl
    have checks := checkSlots_moves (beside s.cat p (rowDone s k v)) (rowSlot k)
    rw [checked] at checks
    exact finished.trans checks
  have table := cellMoves_ok moves ((slotsConsistent_iff s).1 ok).2
  refine ⟨taken, cat, ports, ple, ?_⟩
  have frame : beside s.cat p u = withCommit u { k with phase := .advance } := by
    rw [beside, withCommit, ← cat, ple]
  rw [rowEnded, advanceProgress_eq (s := withCommit s { k with phase := .advance }) resolved open_ running, advanceCells_eq]
  refine (congrArg (fun t : State => (t.touchRow k).unpin) (checked.trans frame)).trans ?_
  exact congrArg (fun l => ({ withCommit (rowUnpinned u k) { k with phase := .advance } with
    ctb := { (rowUnpinned u k).ctb with touch := l } } : State))
    (touchBacks_eq (indexed_nodup table.wf k.ctx distinct) (indexed_touched table k.ctx k.touched))

end SlotBySlot

theorem stripCounted_eq {u : State} {k : Commit} (open_ : (u.ctx k.ctx).isOpen = true)
    (running : (u.ctx k.ctx).summary.fixed = none) : stripCounted u k =
      { u.withSummary k.ctx (fun m => { m with accepted := countUp m.accepted }) with
        ports := u.ports.set k.port (verdictGiven u.ports[k.port] k.buffer
          { seg := k.seg, first := k.first, code := .accepted, next := u.exc.nextExpected k.exposure k.seg })
        cat := (u.cat.unmarked fun m => m == { port := k.port, buffer := k.buffer }).acceptedReport k.seg
        ple := { u.ple with commit := none } } := by
  have same : (u.acceptStrip k).exc = u.exc := by rw [acceptStrip_eq]
  have ctx : (u.acceptStrip k).ctx k.ctx = u.ctx k.ctx := congrArg (fun x => Exc.ctx x k.ctx) same
  rw [stripCounted, count_of_counted (by rw [ctx]; exact open_) (by rw [ctx]; exact running), acceptStrip_eq]
  rfl

/-- Settles O48: what the advance leaves, then the advance slot by slot. -/
theorem rowAdvanceMovesProgressOrEndsTheCommit : Obligations.RowAdvanceMovesProgressOrEndsTheCommit := by
  intro s k commit place all x up
  have run := exec_rowAdvance commit place all
  refine ⟨?_, fun v resolved open_ running ok distinct => ?_⟩
  · by_cases more : k.row + 1 < k.first + k.count
    · rw [if_pos more] at run
      let u := (rowEnded s k).changeCommit fun m => m.nextRow
      obtain ⟨progress, finished, unpinned, memory, params, epoch, long, last, store, quiet⟩ :=
        rowAdvance_leaves s k (t := u.takeHead)
          (.inl (endKept_trans (t := u) (endKept_of (bothCountsKept_refl _) rfl rfl) (takeHead_endKept u)))
          ⟨u, rfl, rfl⟩ (by simp [u]) (by simp [u])
      refine ⟨_, run, progress, finished, unpinned, memory, params, epoch, long, last, store, quiet, fun _ => ?_,
        fun past => absurd more (Nat.not_lt.2 past)⟩
      obtain ⟨ports, cat, -⟩ := rowEnded_frame s k
      have kept : u.takeHead.ports = (rowEnded s k).ports ∧ u.takeHead.cat = (rowEnded s k).cat := by simp [u]
      exact ⟨kept.1.trans ports, kept.2.trans cat⟩
    · rw [if_neg more] at run
      let u := (rowEnded s k).completeCommit k
      have ended := completeCommit_endKept (rowEnded s k) k
      obtain ⟨progress, finished, unpinned, memory, params, epoch, long, last, store, quiet⟩ :=
        rowAdvance_leaves s k (t := u.takeHead) (.inr ended) ⟨u, (completeCommit_frame _ k).2.1, rfl⟩
          (by simp [u]) (by simp [u])
      refine ⟨_, run, progress, finished, unpinned, memory, params, epoch, long, last, store, quiet,
        fun before => absurd before more, fun _ => ⟨fun e he => ?_, fun e he => ?_, fun open_ running => ?_⟩⟩
      · obtain ⟨test, cat⟩ := ended.cat
        obtain ⟨e', mem, -, -, cleared | ⟨same, -⟩⟩ := mem_unmarked (cat ▸ he)
        · rw [cleared]
          exact (nomatch ·)
        · rw [same]
          exact (stripCounted_entry mem).2
      · intro named
        obtain ⟨test, cat⟩ := ended.cat
        obtain ⟨e', mem, seg, broken, -⟩ := mem_unmarked (cat ▸ he)
        exact broken.trans ((stripCounted_entry mem).1 (seg.symm.trans named))
      · obtain ⟨open_, running⟩ := rowEnded_counted s k open_ running
        exact ((ended.counts k.ctx).accepted.trans (stripCounted_accepted open_ running)).trans
          (congrArg countUp (rowEnded_accepted s k))
  · intro x1 ended s1
    obtain ⟨taken, cat, ports, ple, rowEnds⟩ := rowEnded_eq resolved open_ running ok distinct
    have done : rowDone s k v = s1 := by
      simp only [rowDone, finishRow_eq]
      rfl
    rw [rowCompleted, done] at cat ports ple rowEnds
    refine ⟨taken, ?_⟩
    intro s2 moved s3
    refine ⟨fun more => ?_, fun past => ?_⟩
    · rw [run, if_pos more, rowEnds]
      have next := congrArg (fun p : Ple => State.takeHead { s3 with
        ple := { p with commit := some { k with
          row := k.row + 1, phase := .reserve, col := 0, touched := [], toAsk := [], missing := [], victims := [] } } }) ple
      exact congrArg Host.Outcome.next next
    · intro q freed accepted s4
      have counted := rowEnded_counted s k open_ running
      have whole : stripCounted (rowEnded s k) k = s4 := by
        rw [stripCounted_eq counted.1 counted.2, rowEnds]
        exact congrArg (fun f : Vector Port 4 × Cat × Ple => ({
          s3.withSummary k.ctx (fun m => { m with accepted := up m.accepted }) with
          ports := f.1.set k.port (verdictGiven f.1[k.port] k.buffer accepted)
          cat := (f.2.1.unmarked fun m => m == { port := k.port, buffer := k.buffer }).acceptedReport k.seg
          ple := { f.2.2 with commit := none } } : State))
          (Prod.ext_iff.2 ⟨ports, Prod.ext_iff.2 ⟨cat, ple⟩⟩ : (s2.ports, s2.cat, s2.ple) = (s.ports, s.cat, s.ple))
      rw [run, if_neg (Nat.not_lt.2 past), completeCommit_eq, whole]

end Sys2Proof.Proofs
